-- ==== Sys2Proof/Word.lean ====
section
/-! DEFINITION. The bit-vector widths the spec uses (00_scope.md R9). -/

namespace Sys2Proof

/-- `u8`: a command byte, an ADC byte, a device offset or register number (20_memory.md R35, R36). -/
abbrev Byte := BitVec 8

/-- `u16`: a PROM word, a calibration constant, the CRC register (10_state.md R14, R16, R17). -/
abbrev Half := BitVec 16

/-- `u24`: a raw sample (10_state.md R20). -/
abbrev Sample := BitVec 24

/-- A command word or a host register (30_encoding.md R51, R55). -/
abbrev Word := BitVec 32

/-- A word address of the host register space (20_memory.md R43). -/
abbrev HostAddr := BitVec 4

/-- The PROM image: eight words in order (30_encoding.md R57). -/
abbrev PromImage := Vector Half 8

end Sys2Proof
end

