-- ==== Sys2Proof/Syntax.lean ====
section
/-! DEFINITION. The six commands of 30_encoding.md R52, one constructor per row of spec/opcode_table.json. -/

namespace Sys2Proof

/-- A command. `rate` is the requested sample rate as the host writes it; the command word holds sixteen bits of it
(30_encoding.md R53), which `Instr.wellFormed` checks (log 13). -/
inductive Instr where
  /-- CAL.LOAD, 41_cal.md R79. -/
  | calLoad
  /-- OSR.SETP rate, 40_osr.md R69. -/
  | osrSetp (rate : Nat)
  /-- OSR.SETT rate, 40_osr.md R70. -/
  | osrSett (rate : Nat)
  /-- CONV.P, 42_conv.md R84. -/
  | convP
  /-- CONV.T, 42_conv.md R85. -/
  | convT
  /-- COMP, 43_comp.md R99. -/
  | comp
deriving DecidableEq, Repr

/-- The pseudo-command CYCLE stands for these three commands (30_encoding.md R61; log 22). -/
def cycleExpansion : List Instr := [.convP, .convT, .comp]

/-- The expansion with the temperature channel first, which R61 calls equally correct. -/
def cycleExpansionTempFirst : List Instr := [.convT, .convP, .comp]

end Sys2Proof
end

