-- ==== Sys2Proof/WellFormed.lean ====
section
/-! DEFINITION. When a command can be encoded: the rate fits the sixteen-bit operand (30_encoding.md R53, decision D11). -/

namespace Sys2Proof

/-- "A wider host integer must be range-checked by the host" (92_eei_decisions.md D11): this is that check.
Every 16-bit rate is a legal encoding, also one outside the five (30_encoding.md R54). -/
def Instr.wellFormed : Instr → Bool
  | .calLoad => true
  | .osrSetp rate => decide (rate < 65536)
  | .osrSett rate => decide (rate < 65536)
  | .convP => true
  | .convT => true
  | .comp => true

end Sys2Proof
end

