-- ==== Sys2Proof/Decode.lean ====
section
/-! DEFINITION. The command word: decoder, encoder (30_encoding.md R51 to R54, R62, R63) and assembler (R60, R61). -/

namespace Sys2Proof

/-- Why a word is illegal (30_encoding.md R54); the engine reports all three as E_ILLEGAL. -/
inductive Illegal where
  /-- `w[27:16] != 0`. -/
  | reservedFieldNonzero
  /-- `w[31:28]` is 0x0 or in 0x7..0xF. -/
  | noSuchOperation
  /-- An operand field that must be zero is not. -/
  | operandNonzero
deriving DecidableEq, Repr

/-- `OP`, bits 31:28 (R51). -/
def opField (w : Word) : BitVec 4 := w.extractLsb' 28 4

/-- `RSV`, bits 27:16 (R51). -/
def rsvField (w : Word) : BitVec 12 := w.extractLsb' 16 12

/-- `IMM`, bits 15:0 (R51). -/
def immField (w : Word) : Half := w.extractLsb' 0 16

/-- `rate = zext(IMM)`: not scaled, not shifted, not sign-extended (R53). -/
def rateOperand (w : Word) : Nat := (immField w).toNat

/-- A command without operand: its IMM field must be zero (R51, R54). -/
def withoutOperand (w : Word) (i : Instr) : Except Illegal Instr :=
  if immField w = 0 then .ok i else .error .operandNonzero

/-- The decoding procedure of R63: total, in the order the rule gives. -/
def decode (w : Word) : Except Illegal Instr :=
  if rsvField w ≠ 0 then .error .reservedFieldNonzero
  else match (opField w).toNat with
    | 1 => withoutOperand w .calLoad
    | 2 => .ok (.osrSetp (rateOperand w))
    | 3 => .ok (.osrSett (rateOperand w))
    | 4 => withoutOperand w .convP
    | 5 => withoutOperand w .convT
    | 6 => withoutOperand w .comp
    | _ => .error .noSuchOperation

/-- `OP || 0x000 || IMM` (R51). -/
def commandWord (op : BitVec 4) (imm : Half) : Word := (op.setWidth 32 <<< 28) ||| imm.setWidth 32

/-- The command word of an instruction, from the encodings of R52. -/
def encode : Instr → Word
  | .calLoad => commandWord 0x1#4 0#16
  | .osrSetp rate => commandWord 0x2#4 (BitVec.ofNat 16 rate)
  | .osrSett rate => commandWord 0x3#4 (BitVec.ofNat 16 rate)
  | .convP => commandWord 0x4#4 0#16
  | .convT => commandWord 0x5#4 0#16
  | .comp => commandWord 0x6#4 0#16

/-- The instruction the decoder reads from a table row's word: there is one command length, 32 bits (R62). -/
def decodeTableWord (nbits w : Nat) : Option Instr :=
  if nbits ≤ 32 then
    match decode (BitVec.ofNat 32 (w % 2 ^ nbits)) with
    | .ok i => some i
    | .error _ => none
  else none

/-! ### Assembler syntax (R60; log 20) -/

/-- The value of a decimal digit. -/
def decimalDigit (c : Char) : Option Nat :=
  if '0' ≤ c ∧ c ≤ '9' then some (c.toNat - '0'.toNat) else none

/-- The value of a hexadecimal digit. -/
def hexDigit (c : Char) : Option Nat :=
  if 'A' ≤ c ∧ c ≤ 'F' then some (c.toNat - 'A'.toNat + 10)
  else if 'a' ≤ c ∧ c ≤ 'f' then some (c.toNat - 'a'.toNat + 10)
  else decimalDigit c

/-- Digits to a number, most significant first, after the value `acc` of those already read. -/
def readDigits (base : Nat) (digit : Char → Option Nat) : List Char → Nat → Option Nat
  | [], acc => some acc
  | c :: cs, acc =>
    match digit c with
    | some d => readDigits base digit cs (acc * base + d)
    | none => none

/-- "one decimal or `0x` hexadecimal rate" (R60). -/
def readNumber : List Char → Option Nat
  | '0' :: 'x' :: c :: cs => readDigits 16 hexDigit (c :: cs) 0
  | c :: cs => readDigits 10 decimalDigit (c :: cs) 0
  | [] => none

/-- The line up to its comment: "A `;` starts a comment" (R60). -/
def beforeComment : List Char → List Char
  | [] => []
  | c :: cs => if c = ';' then [] else c :: beforeComment cs

/-- The line's tokens, apart at blanks and tabs; `cur` is the token being read, last character first. -/
def tokensFrom : List Char → List Char → List (List Char)
  | [], cur => if cur.isEmpty then [] else [cur.reverse]
  | c :: cs, cur =>
    if c = ' ' ∨ c = '\t' then
      (if cur.isEmpty then tokensFrom cs [] else cur.reverse :: tokensFrom cs [])
    else tokensFrom cs (c :: cur)

/-- A rate operand in text, checked against the operand's width (decision D11). -/
def assembleRate (make : Nat → Instr) (text : List Char) : Option (List Instr) :=
  match readNumber text with
  | some rate => if (make rate).wellFormed then some [make rate] else none
  | none => none

/-- One assembler line as the commands it stands for: none for a line that is not of R60's syntax, no command for a
blank or comment line, three for the pseudo-command CYCLE (R61). A `.word` line holds no command as text and is
`assembleLine`'s (DESIGN CHOICE, log 20). -/
def parseLine (line : String) : Option (List Instr) :=
  match tokensFrom (beforeComment line.toList) [] with
  | [] => some []
  | [m] =>
    if m = "CAL.LOAD".toList then some [.calLoad]
    else if m = "CONV.P".toList then some [.convP]
    else if m = "CONV.T".toList then some [.convT]
    else if m = "COMP".toList then some [.comp]
    else if m = "CYCLE".toList then some cycleExpansion
    else none
  | [m, rate] =>
    if m = "OSR.SETP".toList then assembleRate .osrSetp rate
    else if m = "OSR.SETT".toList then assembleRate .osrSett rate
    else none
  | _ => none

/-- A number in text as one 32-bit word; none when it is not a number or is too wide. -/
def assembleWord (text : List Char) : Option (List Word) :=
  match readNumber text with
  | some n => if n < 2 ^ 32 then some [BitVec.ofNat 32 n] else none
  | none => none

/-- The words a line assembles to (R60).
DESIGN CHOICE (log 20): R60 does not describe the `.word` lines of program P5 (95_test_vectors.md); here such a line
assembles to its number as it stands, a command or not. Every other line is a command line. -/
def assembleLine (line : String) : Option (List Word) :=
  match tokensFrom (beforeComment line.toList) [] with
  | [m, n] =>
    if m = ".word".toList then assembleWord n
    else (parseLine line).map (fun is => is.map encode)
  | _ => (parseLine line).map (fun is => is.map encode)

end Sys2Proof
end

