-- ==== Sys2Proof/Config.lean ====
section
/-! DEFINITION. What an implementation fixes (the OPEN parameters of 00_scope.md R7, R8) and the free values. -/

namespace Sys2Proof

/-- What the bus layer answers a transaction: the data, or `IoError` (20_memory.md R35). -/
inductive Answer (α : Type) where
  | ok (a : α)
  | ioError
deriving DecidableEq, Repr, Inhabited

/-- The three bytes of a block read, in arrival order (20_memory.md R35, 30_encoding.md R58). -/
structure Block where
  b0 : Byte
  b1 : Byte
  b2 : Byte
deriving DecidableEq, Repr, Inhabited

/-- The parameters that 00_scope.md R7 marks OPEN. -/
structure Params where
  /-- `CMD_P[0..4]`. -/
  cmdP : Vector Byte 5
  /-- `CMD_T[0..4]`. -/
  cmdT : Vector Byte 5
  /-- `DELAY_US[0..4]`, whole microseconds, both channels. -/
  delayUs : Vector Nat 5
  /-- `CALI_BASE`. -/
  caliBase : Byte
  /-- `ADC_REG`. -/
  adcReg : Byte
deriving DecidableEq, Repr, Inhabited

/-- The ten command bytes are pairwise distinct (R8, decision D31). -/
def Params.distinctCommands (p : Params) : Bool := decide (p.cmdP.toList ++ p.cmdT.toList).Nodup

/-- `DELAY_US` is strictly increasing (R8, decision D32). -/
def Params.delaysIncrease (p : Params) : Bool := decide (p.delayUs.toList.Pairwise (· < ·))

/-- `CALI_BASE + 14` is a device offset (R8, 20_memory.md R36). -/
def Params.offsetsFit (p : Params) : Bool := decide (p.caliBase.toNat ≤ 241)

/-- The constraints of 00_scope.md R8. -/
def Params.meetsR8 (p : Params) : Bool := p.distinctCommands && p.delaysIncrease && p.offsetsFit

/-- The defaults of 00_scope.md R7, "from general knowledge, not in source".
No claim may rest on them unless it names them as a premise (R8); they show here that R8 can be met. -/
def Params.recommended : Params where
  cmdP := #v[0x40#8, 0x42#8, 0x44#8, 0x46#8, 0x48#8]
  cmdT := #v[0x50#8, 0x52#8, 0x54#8, 0x56#8, 0x58#8]
  delayUs := #v[600, 1200, 2300, 4600, 9100]
  caliBase := 0xA0#8
  adcReg := 0x00#8

/-- Any parameter values at all. -/
opaque Config.openParams : Params

/-- The implementation's parameters: any values that meet R8 and no others.
DESIGN CHOICE (log 1): values that break R8 stand for the recommended ones, so that R8 is a theorem and nothing else is. -/
def Config.params : Params :=
  if Config.openParams.meetsR8 then Config.openParams else Params.recommended

/-! Free values: nothing constrains them. Each is indexed by a counter of State. -/

/-- The k-th answer to a word read that no script gives (20_memory.md R38; log 2). -/
opaque Config.freeWord : Nat → Answer Half

/-- The k-th answer to a command write that no script gives (20_memory.md R38; log 2). -/
opaque Config.freeWrite : Nat → Answer Unit

/-- The k-th answer to a block read that no script gives (20_memory.md R38; log 2). -/
opaque Config.freeBlock : Nat → Answer Block

/-- The k-th excess of a settling wait that no script gives (42_conv.md R86; log 3). -/
opaque Config.freeExcess : Nat → Nat

/-- What a host read of a register that holds no value returns (30_encoding.md R56; log 5). -/
opaque Config.unspecifiedWord : Nat → Word

/-- What stands in a raw-sample register that has come to hold no value (10_state.md R21; log 6). -/
opaque Config.noSample : Nat → Sample

/-- What stands in the PROM buffer after CAL.LOAD (10_state.md R16; log 6). -/
opaque Config.noImage : Nat → PromImage

/-- What stands in the CRC register between computations (10_state.md R17; log 6). -/
opaque Config.noCrc : Nat → Half

end Sys2Proof
end

