-- ==== Sys2Proof/Machine/State.lean ====
section
/-! DEFINITION. The engine's state (10_state.md R13), the host's and the bus's inputs beside it, and its reset. -/

namespace Sys2Proof.Machine

/-- One of the two conversion kinds (00_scope.md R12). -/
inductive Channel where
  | pressure
  | temperature
deriving DecidableEq, Repr

/-- The result codes of 60_exceptions.md R105. -/
inductive ResultCode where
  | ok
  | eIntegrity
  | eRate
  | eIo
  | eIllegal
  | eState
  | eNoCal
  | eNoSample
deriving DecidableEq, Repr

/-- The sequencer states of 10_state.md R27. -/
inductive Seq where
  /-- IDLE. -/
  | idle
  /-- CAL_RD(i): reading PROM word i. -/
  | calRd (i : Fin 8)
  /-- CAL_CRC: computing and checking the CRC. -/
  | calCrc
  /-- CONV_CMD(ch): writing the command byte. -/
  | convCmd (ch : Channel)
  /-- CONV_WAIT(ch): waiting the settling delay. -/
  | convWait (ch : Channel)
  /-- CONV_RD(ch): reading the ADC. -/
  | convRd (ch : Channel)
  /-- COMP_RUN: computing the compensation. -/
  | compRun
deriving DecidableEq, Repr

/-- The six calibration constants C[1]..C[6] (10_state.md R14). -/
structure Consts where
  c1 : Half
  c2 : Half
  c3 : Half
  c4 : Half
  c5 : Half
  c6 : Half
deriving DecidableEq, Repr

/-- A row of an oversampling table (30_encoding.md R59). -/
structure OsrRow where
  rate : Nat
  cmd : Byte
  delay : Nat
deriving DecidableEq, Repr

/-- An event of the trace of 20_memory.md R50, each bus event with its answer. -/
inductive BusEvent where
  /-- `W(v)`. -/
  | commandWrite (v : Byte) (answer : Answer Unit)
  /-- `RW(off)`. -/
  | wordRead (off : Byte) (answer : Answer Half)
  /-- `S(d, W)`: `d` microseconds asked, `w` microseconds lasted. -/
  | sleep (d w : Nat)
  /-- `RB(reg, 3)`. -/
  | blockRead (reg : Byte) (answer : Answer Block)
deriving DecidableEq, Repr

/-- What the host does to the engine (20_memory.md R43, 70_reset_and_hazards.md R119, R130; log 7). -/
inductive HostInput where
  /-- A write; after a command the host goes on when the command has finished (R130). -/
  | write (addr : HostAddr) (data : Word)
  /-- A write after which the host goes on at once, so that its next accesses can land while the command runs. -/
  | post (addr : HostAddr) (data : Word)
  /-- A register read. -/
  | read (addr : HostAddr)
  /-- The reset input. -/
  | reset
  /-- The engine makes one sequencer transition before the host's next access. -/
  | elapse
deriving DecidableEq, Repr

/-- What a host read returned. -/
structure HostReply where
  addr : HostAddr
  data : Word
deriving DecidableEq, Repr

/-- Inputs of one kind: a script, taken first, and a count of the free values taken since it ran out. -/
structure Oracle (α : Type) where
  script : List α
  drawn : Nat
deriving DecidableEq, Repr

/-- The state: first the list of 10_state.md R13, then the model's own fields (INVENTORY.md).
BUSY and STATUS are computed (Flags.lean); CMD keeps no value (R26); there is no byte memory (log 14). -/
structure State where
  /-- C[1]..C[6], R14. -/
  calib : Consts
  /-- CAL_VALID, R15. -/
  calValid : Bool
  /-- PROM[0]..PROM[7], R16. -/
  prom : PromImage
  /-- CRCREG, R17. -/
  crcReg : Half
  /-- OSRP, R18: the index of the active row. -/
  osrP : Fin 5
  /-- OSRT, R18. -/
  osrT : Fin 5
  /-- RAWP, R20. -/
  rawP : Sample
  /-- RAWT, R20. -/
  rawT : Sample
  /-- RAWP_VALID, R21. -/
  rawPValid : Bool
  /-- RAWT_VALID, R21. -/
  rawTValid : Bool
  /-- TEMP, R22. -/
  temp : Word
  /-- PRESS, R22. -/
  press : Word
  /-- OUT_VALID, R23. -/
  outValid : Bool
  /-- ERR, R25. -/
  err : ResultCode
  /-- SEQ, R27. -/
  seq : Seq
  /-- TIMER, R28, in microseconds (log 15). -/
  timer : Nat
  /-- Model's own: the RAWx_VALID flag as the running conversion found it (log 8). -/
  heldValid : Bool
  /-- Model's own: the host's pending accesses, oldest first (log 10). -/
  inputs : List HostInput
  /-- Model's own: what host reads returned, oldest first (log 11). -/
  replies : List HostReply
  /-- Model's own: the event trace of 20_memory.md R50, oldest first (log 11). -/
  trace : List BusEvent
  /-- Model's own: answers to word reads (log 2). -/
  words : Oracle (Answer Half)
  /-- Model's own: answers to command writes (log 2). -/
  writes : Oracle (Answer Unit)
  /-- Model's own: answers to block reads (log 2). -/
  blocks : Oracle (Answer Block)
  /-- Model's own: the excess of each settling wait over its delay (log 3). -/
  sleeps : Oracle Nat
  /-- Model's own: counts the free values put into registers that hold no value (log 6). -/
  noValues : Nat
  /-- Model's own: counts the unspecified words host reads returned (log 5). -/
  readDraws : Nat
deriving DecidableEq, Repr

/-- Reasons for which the machine stops: none. The spec turns every error into a result code (60_exceptions.md R104),
after which the engine accepts any command (R109). -/
inductive Fault where
deriving DecidableEq, Repr

/-- Reasons for which the model gives no meaning. -/
inductive Refusal where
  /-- Raised by an arm of `exec` that has no meaning yet; no arm does (safe). -/
  | notModelled (mnemonic : String)
deriving DecidableEq, Repr

/-- After reset (10_state.md R32, 70_reset_and_hazards.md R119).
DESIGN CHOICE (log 4): calib, prom, crcReg, rawP, rawT, temp, press and timer, which "hold no value", are zero. -/
def State.reset : State where
  calib := ⟨0, 0, 0, 0, 0, 0⟩
  calValid := false
  prom := Vector.replicate 8 0
  crcReg := 0
  osrP := 4
  osrT := 4
  rawP := 0
  rawT := 0
  rawPValid := false
  rawTValid := false
  temp := 0
  press := 0
  outValid := false
  err := .ok
  seq := .idle
  timer := 0
  heldValid := false
  inputs := []
  replies := []
  trace := []
  words := ⟨[], 0⟩
  writes := ⟨[], 0⟩
  blocks := ⟨[], 0⟩
  sleeps := ⟨[], 0⟩
  noValues := 0
  readDraws := 0

end Sys2Proof.Machine
end

