-- ==== Sys2Proof/Machine/Flags.lean ====
section
/-! DEFINITION. Flags and the STATUS word (10_state.md R24, R25, R27). -/

namespace Sys2Proof.Machine

/-- The value of a result code in `STATUS.ERR` (60_exceptions.md R105). -/
def ResultCode.code : ResultCode → BitVec 3
  | .ok => 0
  | .eIntegrity => 1
  | .eRate => 2
  | .eIo => 3
  | .eIllegal => 4
  | .eState => 5
  | .eNoCal => 6
  | .eNoSample => 7

/-- `BUSY = 0` exactly when `SEQ = IDLE` (10_state.md R27). -/
def State.busy (s : State) : Bool := decide (s.seq ≠ .idle)

/-- The channel whose conversion is in progress. -/
def Seq.converting : Seq → Option Channel
  | .convCmd ch => some ch
  | .convWait ch => some ch
  | .convRd ch => some ch
  | .idle => none
  | .calRd _ => none
  | .calCrc => none
  | .compRun => none

/-- `RAWch_VALID` (10_state.md R21). -/
def State.rawValid (s : State) : Channel → Bool
  | .pressure => s.rawPValid
  | .temperature => s.rawTValid

/-- RAWch_VALID as the host sees it: while CONV.ch runs, as it was before (30_encoding.md R56; log 8). -/
def State.shownRawValid (s : State) (ch : Channel) : Bool :=
  if s.seq.converting = some ch then s.heldValid else s.rawValid ch

/-- STATUS, from its most significant field down (10_state.md R24). -/
def State.statusWord (s : State) : Word :=
  (0#21 ++ (s.err.code ++ (0#3 ++ (BitVec.ofBool s.outValid ++ (BitVec.ofBool (s.shownRawValid .temperature) ++
    (BitVec.ofBool (s.shownRawValid .pressure) ++ (BitVec.ofBool s.calValid ++ BitVec.ofBool s.busy))))))).cast (by decide)

end Sys2Proof.Machine
end

