-- ==== Sys2Proof/Machine/Operands.lean ====
section
/-! DEFINITION. Operand forms: exact shifts, the oversampling tables and their lookup, byte and sample assembly. -/

namespace Sys2Proof.Machine

/-- `x << n` on `int`: exact (00_scope.md R10). -/
def shl (x : Int) (n : Nat) : Int := x * 2 ^ n

/-- `x >> n` on `int`: `floor(x / 2^n)` (00_scope.md R10, decision D7, log 19); `/` rounds down, since `2 ^ n` is positive. -/
def shr (x : Int) (n : Nat) : Int := x / 2 ^ n

/-- `RATE[0..4]` (00_scope.md R7, 40_osr.md R67). -/
def rateOf (idx : Fin 5) : Nat := #v[256, 512, 1024, 2048, 4096][idx]

/-- The command byte of a table row (40_osr.md R67). -/
def commandOf (ch : Channel) (idx : Fin 5) : Byte :=
  match ch with
  | .pressure => Config.params.cmdP[idx]
  | .temperature => Config.params.cmdT[idx]

/-- The settling delay of a row, the same in both tables (40_osr.md R67). -/
def delayOf (idx : Fin 5) : Nat := Config.params.delayUs[idx]

/-- Row `idx` of a channel's table (30_encoding.md R59). -/
def osrRow (ch : Channel) (idx : Fin 5) : OsrRow := ⟨rateOf idx, commandOf ch idx, delayOf idx⟩

/-- The index of a rate: equality on the whole operand, no rounding and no masking (40_osr.md R68, decision D35). -/
def rateIndex (rate : Nat) : Option (Fin 5) :=
  if rate = rateOf 0 then some 0
  else if rate = rateOf 1 then some 1
  else if rate = rateOf 2 then some 2
  else if rate = rateOf 3 then some 3
  else if rate = rateOf 4 then some 4
  else none

/-- `resolve(ch, rate)`; none is `InvalidRate` (40_osr.md R68). -/
def resolve (ch : Channel) (rate : Nat) : Option OsrRow := (rateIndex rate).map (osrRow ch)

/-- The device offset of PROM word `i` (20_memory.md R36). -/
def promOffset (i : Fin 8) : Byte := Config.params.caliBase + BitVec.ofNat 8 (i.val * 2)

/-- `RAW = (b0 << 16) | (b1 << 8) | b2` (42_conv.md R87). -/
def assembleSample (b : Block) : Sample :=
  (b.b0.setWidth 24 <<< 16) ||| (b.b1.setWidth 24 <<< 8) ||| b.b2.setWidth 24

/-- The two bytes of a word in the order the CRC takes them (41_cal.md R75). -/
def wordBytes (w : Half) : List Byte := [w.extractLsb' 8 8, w.extractLsb' 0 8]

/-- How long a settling wait of `d` microseconds lasts for an excess drawn as `e`: every whole number of microseconds
from `d` to `d * 1.1` and no other (42_conv.md R86; log 3). -/
def settleTime (d e : Nat) : Nat := d + e % (d / 10 + 1)

end Sys2Proof.Machine
end

