-- ==== Sys2Proof/Machine/Ops.lean ====
section
/-! DEFINITION. The shared operations: bus primitives, per-channel registers, ending a command, reset. -/

namespace Sys2Proof.Machine

/-! ### Inputs -/

/-- The next input: of the script, and after it a free value (20_memory.md R38). -/
def Oracle.peek {α : Type} (free : Nat → α) (o : Oracle α) : α :=
  match o.script with
  | a :: _ => a
  | [] => free o.drawn

/-- The inputs after the next one has been taken. -/
def Oracle.advance {α : Type} (o : Oracle α) : Oracle α :=
  match o.script with
  | _ :: rest => ⟨rest, o.drawn⟩
  | [] => ⟨[], o.drawn + 1⟩

/-- The inputs after `n` have been taken. -/
def Oracle.skip {α : Type} : Nat → Oracle α → Oracle α
  | 0, o => o
  | n + 1, o => Oracle.skip n o.advance

/-- The input `n` after the next one. -/
def Oracle.nth {α : Type} (free : Nat → α) (n : Nat) (o : Oracle α) : α := (o.skip n).peek free

/-- The bus layer's answer to the next word read. -/
def State.nextWord (s : State) : Answer Half := s.words.peek Config.freeWord

/-- The bus layer's answer to the next command write. -/
def State.nextWrite (s : State) : Answer Unit := s.writes.peek Config.freeWrite

/-- The bus layer's answer to the next block read. -/
def State.nextBlock (s : State) : Answer Block := s.blocks.peek Config.freeBlock

/-- The excess drawn for the next settling wait. -/
def State.nextExcess (s : State) : Nat := s.sleeps.peek Config.freeExcess

/-! ### Bus primitives (20_memory.md R35): each is one transaction and appends its event (R45, R50) -/

/-- `MemRead(off, 2)`: the answer is `s.nextWord`. -/
def busReadWord (off : Byte) (s : State) : State :=
  { s with words := s.words.advance, trace := s.trace ++ [.wordRead off s.nextWord] }

/-- `MemWrite(CMDPORT, 1, v)`: the answer is `s.nextWrite`. -/
def busWriteCommand (v : Byte) (s : State) : State :=
  { s with writes := s.writes.advance, trace := s.trace ++ [.commandWrite v s.nextWrite] }

/-- `MemRead(reg, 3)`: the answer is `s.nextBlock`. -/
def busReadBlock (reg : Byte) (s : State) : State :=
  { s with blocks := s.blocks.advance, trace := s.trace ++ [.blockRead reg s.nextBlock] }

/-- `Sleep(d)`: TIMER counts the wait to its end (42_conv.md R86, 10_state.md R28). -/
def busSleep (d : Nat) (s : State) : State :=
  { s with
    sleeps := s.sleeps.advance
    timer := settleTime d s.nextExcess
    trace := s.trace ++ [.sleep d (settleTime d s.nextExcess)] }

/-! ### Per-channel registers -/

/-- `OSRch` (10_state.md R18). -/
def State.osr (s : State) : Channel → Fin 5
  | .pressure => s.osrP
  | .temperature => s.osrT

/-- The row `OSRch` selects (10_state.md R18). -/
def State.row (s : State) (ch : Channel) : OsrRow := osrRow ch (s.osr ch)

/-- `RAWch` (10_state.md R20). -/
def State.raw (s : State) : Channel → Sample
  | .pressure => s.rawP
  | .temperature => s.rawT

/-- `OSRch <- row idx`. -/
def setOsr (ch : Channel) (idx : Fin 5) (s : State) : State :=
  match ch with
  | .pressure => { s with osrP := idx }
  | .temperature => { s with osrT := idx }

/-- `RAWch_VALID <- 0` as a conversion starts; the old flag is kept for host reads during BUSY (R21, R56; log 8). -/
def holdSample (ch : Channel) (s : State) : State :=
  match ch with
  | .pressure => { s with rawPValid := false, heldValid := s.rawPValid }
  | .temperature => { s with rawTValid := false, heldValid := s.rawTValid }

/-- `RAWch <- v ; RAWch_VALID <- 1`. -/
def putSample (ch : Channel) (v : Sample) (s : State) : State :=
  match ch with
  | .pressure => { s with rawP := v, rawPValid := true }
  | .temperature => { s with rawT := v, rawTValid := true }

/-- `RAWch_VALID <- 0`, and `RAWch` holds no value: a free value stands in it (10_state.md R21; log 6). -/
def dropSample (ch : Channel) (s : State) : State :=
  match ch with
  | .pressure => { s with rawP := Config.noSample s.noValues, rawPValid := false, noValues := s.noValues + 1 }
  | .temperature => { s with rawT := Config.noSample s.noValues, rawTValid := false, noValues := s.noValues + 1 }

/-- `PROM[0..7]` and `CRCREG` hold no value: free values stand in them (10_state.md R16, R17, 41_cal.md R82; log 6). -/
def wipeImage (s : State) : State :=
  { s with prom := Config.noImage s.noValues, crcReg := Config.noCrc s.noValues, noValues := s.noValues + 1 }

/-! ### Ending a command -/

/-- The end of a command, `raise E` and `done OK` alike: `ERR` takes the result code, `SEQ <- IDLE`, `BUSY <- 0`.
This is the spec's "trap entry" (60_exceptions.md R108): nothing is saved, no mode changes, control goes nowhere.
The return from it is the next command (R109): there is nothing to restore and so no operation for it. -/
def endCommand (code : ResultCode) (s : State) : State := { s with err := code, seq := .idle }

/-! ### Reset -/

/-- The reset input (70_reset_and_hazards.md R119, R120, R122): the engine is at its reset values, a command in
progress is abandoned and no bus event happens; what the host and the bus still hold ready stays (log 16; the hazard of R122 is the host's, log 12). -/
def resetEngine (s : State) : State :=
  { State.reset with
    inputs := s.inputs
    replies := s.replies
    trace := s.trace
    words := s.words
    writes := s.writes
    blocks := s.blocks
    sleeps := s.sleeps
    noValues := s.noValues
    readDraws := s.readDraws }

end Sys2Proof.Machine
end

