-- ==== Sys2Proof/Machine/Calibration.lean ====
section
/-! DEFINITION. CalibrationStore: the CRC-4 function (41_cal.md R73 to R78) and the transitions of CAL.LOAD (R79). -/

namespace Sys2Proof.Machine

/-- `CRC_POLY` (00_scope.md R7). -/
def crcPoly : Half := 0x3000

/-- `CRC_INIT` (00_scope.md R7, decision D4; log 19). -/
def crcInit : Half := 0x0000

/-- One shift/XOR iteration: the top bit is tested before the shift (41_cal.md R74). -/
def crcShift (r : Half) : Half := if r.msb then (r <<< 1) ^^^ crcPoly else r <<< 1

/-- `n` iterations. -/
def crcShifts : Nat → Half → Half
  | 0, r => r
  | n + 1, r => crcShifts n (crcShift r)

/-- A byte enters by exclusive-or into the low eight bits, then eight iterations follow (41_cal.md R75). -/
def crcByte (r : Half) (b : Byte) : Half := crcShifts 8 (r ^^^ b.setWidth 16)

/-- The working copy, word 7's low byte cleared (41_cal.md R77, 90_conflicts.md C1, C2). -/
def maskImage (img : PromImage) : PromImage := img.set 7 (img[7] &&& 0xFF00)

/-- The sixteen bytes in the order the CRC takes them (41_cal.md R75). -/
def imageBytes (img : PromImage) : List Byte := img.toList.flatMap wordBytes

/-- The final CRC register (41_cal.md R73). -/
def crcRegister (img : PromImage) : Half := (imageBytes (maskImage img)).foldl crcByte crcInit

/-- Bits 15:12 of the CRC register (41_cal.md R76). -/
def crcResult (r : Half) : BitVec 4 := r.extractLsb' 12 4

/-- `crc4(img)` (41_cal.md R73 to R76). -/
def crc4 (img : PromImage) : BitVec 4 := crcResult (crcRegister img)

/-- `crc_orig = img[7][3:0]` (41_cal.md R77). -/
def storedCrc (img : PromImage) : BitVec 4 := img[7].extractLsb' 0 4

/-- `valid(img)` (41_cal.md R78). -/
def validImage (img : PromImage) : Bool := decide (storedCrc img ≠ 0 ∧ crc4 img = storedCrc img)

/-- `C[k] = PROM[k]` for k = 1..6 (41_cal.md R80). -/
def constsOf (img : PromImage) : Consts := ⟨img[1], img[2], img[3], img[4], img[5], img[6]⟩

/-- CAL.LOAD ends, with any result: the PROM buffer and the CRC register hold no value (41_cal.md R79, R82). -/
def endCal (code : ResultCode) (s : State) : State := endCommand code (wipeImage s)

/-- CAL.LOAD starts: E_STATE on a validated store, without a bus event (41_cal.md R79, decision D13; log 21). -/
def startCal (s : State) : State := if s.calValid then endCal .eState s else { s with seq := .calRd 0 }

/-- The sequencer state after PROM word `i` has been read (10_state.md R27). -/
def afterCalRd (i : Fin 8) : Seq := if h : i.val + 1 < 8 then .calRd ⟨i.val + 1, h⟩ else .calCrc

/-- CAL_RD(i): read PROM word `i`; the first failing read ends the command (41_cal.md R79, decision D14). -/
def calReadWord (i : Fin 8) (s : State) : State :=
  match s.nextWord with
  | .ioError => endCal .eIo (busReadWord (promOffset i) s)
  | .ok w => { busReadWord (promOffset i) s with prom := s.prom.set i w, seq := afterCalRd i }

/-- CAL_CRC: the CRC register runs over the image; then the check, and on success the six constants and CAL_VALID in
one transition (41_cal.md R78, R79, R80; 10_state.md R15). -/
def calCheck (s : State) : State :=
  if validImage s.prom then
    endCal .ok { s with crcReg := crcRegister s.prom, calib := constsOf s.prom, calValid := true }
  else endCal .eIntegrity { s with crcReg := crcRegister s.prom }

end Sys2Proof.Machine
end

