-- ==== Sys2Proof/Machine/Compensation.lean ====
section
/-! DEFINITION. CompensationEngine: `compensate` (43_comp.md R90 to R97) and the transitions of COMP (R99). -/

namespace Sys2Proof.Machine

/-- The eight inputs of `compensate`, read as non-negative integers (43_comp.md R90). -/
structure CompIn where
  rawTemp : Int
  rawPressure : Int
  c1 : Int
  c2 : Int
  c3 : Int
  c4 : Int
  c5 : Int
  c6 : Int
deriving DecidableEq, Repr

/-- `T`, `OFF` and `SENS`, before or after the low-temperature correction. -/
structure Terms where
  t : Int
  off : Int
  sens : Int
deriving DecidableEq, Repr

/-- `dT` (43_comp.md R91). -/
def diffT (x : CompIn) : Int := x.rawTemp - shl x.c5 8

/-- Stage 1, first order (43_comp.md R91). -/
def firstOrder (x : CompIn) : Terms where
  t := 2000 + shr (x.c6 * diffT x) 23
  off := shl x.c2 16 + shr (x.c4 * diffT x) 7
  sens := shl x.c1 15 + shr (x.c3 * diffT x) 8

/-- `T2`, `OFF2` and `SENS2` of stage 2 below 20.00 degrees, from the stage-1 `T` (43_comp.md R93). -/
def lowTerms (dT t : Int) : Terms where
  t := shr (dT * dT) 31
  off := shr (5 * (t - 2000) ^ 2) 1
  sens := shr (shr (5 * (t - 2000) ^ 2) 1) 1

/-- What is added to `OFF2` and `SENS2` below -15.00 degrees, from the stage-1 `T` (43_comp.md R94). -/
def veryLowTerms (t : Int) : Terms :=
  if t < -1500 then ⟨0, 7 * (t + 1500) ^ 2, shr (11 * (t + 1500) ^ 2) 1⟩ else ⟨0, 0, 0⟩

/-- `T2`, `OFF2` and `SENS2`: zero when stage 2 is skipped (43_comp.md R92, R93, R94). -/
def corrections (dT t : Int) : Terms :=
  if t < 2000 then
    ⟨(lowTerms dT t).t, (lowTerms dT t).off + (veryLowTerms t).off, (lowTerms dT t).sens + (veryLowTerms t).sens⟩
  else ⟨0, 0, 0⟩

/-- `T`, `OFF` and `SENS` after the subtractions (43_comp.md R95). -/
def corrected (x : CompIn) : Terms where
  t := (firstOrder x).t - (corrections (diffT x) (firstOrder x).t).t
  off := (firstOrder x).off - (corrections (diffT x) (firstOrder x).t).off
  sens := (firstOrder x).sens - (corrections (diffT x) (firstOrder x).t).sens

/-- Final pressure (43_comp.md R96). -/
def finalPressure (rawPressure off sens : Int) : Int := shr (shr (rawPressure * sens) 21 - off) 15

/-- `compensate`: the pair (T, P) (43_comp.md R90). -/
def compensate (x : CompIn) : Int × Int :=
  ((corrected x).t, finalPressure x.rawPressure (corrected x).off (corrected x).sens)

/-- Registers as the inputs of `compensate`: zero-extended, never sign-extended (43_comp.md R97). -/
def compInOf (rawT rawP : Sample) (k : Consts) : CompIn where
  rawTemp := rawT.toNat
  rawPressure := rawP.toNat
  c1 := k.c1.toNat
  c2 := k.c2.toNat
  c3 := k.c3.toNat
  c4 := k.c4.toNat
  c5 := k.c5.toNat
  c6 := k.c6.toNat

/-- What COMP applies `compensate` to (43_comp.md R99). -/
def State.compIn (s : State) : CompIn := compInOf s.rawT s.rawP s.calib

/-- COMP starts: its two preconditions, E_NOCAL first (43_comp.md R99, 60_exceptions.md R107). -/
def startComp (s : State) : State :=
  if s.calValid = false then endCommand .eNoCal s
  else if s.rawTValid = false ∨ s.rawPValid = false then endCommand .eNoSample s
  else { s with seq := .compRun }

/-- COMP_RUN: the reading is written and both samples are used up, in one transition (43_comp.md R99, decision D16). -/
def compRun (s : State) : State :=
  endCommand .ok (dropSample .pressure (dropSample .temperature
    { s with
      temp := BitVec.ofInt 32 (compensate s.compIn).1
      press := BitVec.ofInt 32 (compensate s.compIn).2
      outValid := true }))

end Sys2Proof.Machine
end

