-- ==== Sys2Proof/Machine/Conversion.lean ====
section
/-! DEFINITION. ConversionSequencer: the transitions of CONV.P and CONV.T (42_conv.md R83 to R88). -/

namespace Sys2Proof.Machine

/-- CONV.ch starts: the old sample is discarded (42_conv.md R83, decision D15). -/
def startConv (ch : Channel) (s : State) : State := { holdSample ch s with seq := .convCmd ch }

/-- CONV.ch fails: no sample is left (42_conv.md R83, R88). -/
def failConv (ch : Channel) (s : State) : State := endCommand .eIo (dropSample ch s)

/-- CONV_CMD(ch): write the command byte; once it is answered `ok` the timer starts (42_conv.md R83, R86). -/
def convWrite (ch : Channel) (s : State) : State :=
  match s.nextWrite with
  | .ioError => failConv ch (busWriteCommand (s.row ch).cmd s)
  | .ok () => { busWriteCommand (s.row ch).cmd s with timer := 0, seq := .convWait ch }

/-- CONV_WAIT(ch): the settling wait (42_conv.md R83, R86). OSRch is still the row the command started with, since no
command is accepted meanwhile (40_osr.md R71). -/
def convWait (ch : Channel) (s : State) : State := { busSleep (s.row ch).delay s with seq := .convRd ch }

/-- CONV_RD(ch): the block read and the assembly of the sample (42_conv.md R83, R87). -/
def convRead (ch : Channel) (s : State) : State :=
  match s.nextBlock with
  | .ioError => failConv ch (busReadBlock Config.params.adcReg s)
  | .ok b => endCommand .ok (putSample ch (assembleSample b) (busReadBlock Config.params.adcReg s))

end Sys2Proof.Machine
end

