-- ==== Sys2Proof/Machine/Oversampling.lean ====
section
/-! DEFINITION. OversamplingTable: the transition of OSR.SETP and OSR.SETT (40_osr.md R69, R70). -/

namespace Sys2Proof.Machine

/-- `resolve`, then the store, in one transition that does not leave IDLE (R69, R70, R71; 10_state.md R27). -/
def startOsr (ch : Channel) (rate : Nat) (s : State) : State :=
  match rateIndex rate with
  | none => endCommand .eRate s
  | some idx => endCommand .ok (setOsr ch idx s)

end Sys2Proof.Machine
end

