-- ==== Sys2Proof/Machine/Sequencer.lean ====
section
/-! DEFINITION. The sequencer (10_state.md R27): one transition, a whole command, and the acceptance of a command. -/

namespace Sys2Proof.Machine

/-- One sequencer transition; IDLE stays IDLE (10_state.md R27). -/
def tick (s : State) : State :=
  match s.seq with
  | .idle => s
  | .calRd i => calReadWord i s
  | .calCrc => calCheck s
  | .convCmd ch => convWrite ch s
  | .convWait ch => convWait ch s
  | .convRd ch => convRead ch s
  | .compRun => compRun s

/-- `n` transitions. -/
def ticks : Nat → State → State
  | 0, s => s
  | n + 1, s => ticks n (tick s)

/-- The most transitions a command makes after its start: CAL.LOAD's eight reads and its check (41_cal.md R79). -/
def maxTicks : Nat := 9

/-- The running command to its end (70_reset_and_hazards.md R129). -/
def finish (s : State) : State := ticks maxTicks s

/-- A command as ONE transition, as 10_state.md R27 (decision D18) allows: its start, then the sequencer to IDLE.
While BUSY = 1 the port accepts nothing and nothing happens (10_state.md R26; log 9). -/
def runCommand (start : State → State) (s : State) : State := if s.busy then s else finish (start s)

/-- The start of a command only: what the acceptance of its word does (10_state.md R26, R27). -/
def startInstr : Instr → State → State
  | .calLoad => startCal
  | .osrSetp rate => startOsr .pressure rate
  | .osrSett rate => startOsr .temperature rate
  | .convP => startConv .pressure
  | .convT => startConv .temperature
  | .comp => startComp

/-- An illegal word ends at once with E_ILLEGAL; no bus event, no other state change (30_encoding.md R54). -/
def illegalWord (s : State) : State := endCommand .eIllegal s

end Sys2Proof.Machine
end

