-- ==== Sys2Proof/Machine/Commands.lean ====
section
/-! DEFINITION. The meaning of each command, one definition per constructor of Instr. -/

namespace Sys2Proof.Machine

/-- CAL.LOAD (41_cal.md R79): `startCal`, then CAL_RD(0..7) = `calReadWord`, CAL_CRC = `calCheck`. -/
def execCalLoad (s : State) : Host.Outcome State Fault Refusal := .next (runCommand startCal s)

/-- OSR.SETP rate (40_osr.md R69): `startOsr` alone. -/
def execOsrSetp (rate : Nat) (s : State) : Host.Outcome State Fault Refusal :=
  .next (runCommand (startOsr .pressure rate) s)

/-- OSR.SETT rate (40_osr.md R70): `startOsr` alone. -/
def execOsrSett (rate : Nat) (s : State) : Host.Outcome State Fault Refusal :=
  .next (runCommand (startOsr .temperature rate) s)

/-- CONV.P (42_conv.md R83, R84): `startConv`, `convWrite`, `convWait`, `convRead` of the pressure channel. -/
def execConvP (s : State) : Host.Outcome State Fault Refusal := .next (runCommand (startConv .pressure) s)

/-- CONV.T (42_conv.md R83, R85): `startConv`, `convWrite`, `convWait`, `convRead` of the temperature channel. -/
def execConvT (s : State) : Host.Outcome State Fault Refusal := .next (runCommand (startConv .temperature) s)

/-- COMP (43_comp.md R99): `startComp`, then COMP_RUN = `compRun`. -/
def execComp (s : State) : Host.Outcome State Fault Refusal := .next (runCommand startComp s)

end Sys2Proof.Machine
end

