-- ==== Sys2Proof/Machine/Dispatch.lean ====
section
/-! DEFINITION. The dispatch of a decoded command to its meaning. -/

namespace Sys2Proof.Machine

def exec (i : Instr) (s : State) : Host.Outcome State Fault Refusal :=
  match i with
  | .calLoad => Sys2Proof.Machine.execCalLoad s
  | .osrSetp rate => Sys2Proof.Machine.execOsrSetp rate s
  | .osrSett rate => Sys2Proof.Machine.execOsrSett rate s
  | .convP => Sys2Proof.Machine.execConvP s
  | .convT => Sys2Proof.Machine.execConvT s
  | .comp => Sys2Proof.Machine.execComp s

end Sys2Proof.Machine
end

