-- ==== Sys2Proof/Machine/HostPort.lean ====
section
/-! DEFINITION. The host register space (20_memory.md R43, 30_encoding.md R55, R56). -/

namespace Sys2Proof.Machine

/-- The word address of CMD (30_encoding.md R55). -/
def cmdAddr : HostAddr := 0x0

/-- The content of a host register; none while it holds no value (30_encoding.md R55, R56; 10_state.md R32).
While a command runs this is the state before it, since commands write their results at their end (R56; log 8). -/
def hostValue (addr : HostAddr) (s : State) : Option Word :=
  match addr.toNat with
  | 0x0 => some 0
  | 0x1 => some s.statusWord
  | 0x2 => if s.calValid then some (s.calib.c1.setWidth 32) else none
  | 0x3 => if s.calValid then some (s.calib.c2.setWidth 32) else none
  | 0x4 => if s.calValid then some (s.calib.c3.setWidth 32) else none
  | 0x5 => if s.calValid then some (s.calib.c4.setWidth 32) else none
  | 0x6 => if s.calValid then some (s.calib.c5.setWidth 32) else none
  | 0x7 => if s.calValid then some (s.calib.c6.setWidth 32) else none
  | 0x8 => some (BitVec.ofNat 32 (rateOf s.osrP))
  | 0x9 => some (BitVec.ofNat 32 (rateOf s.osrT))
  | 0xA => if s.shownRawValid .pressure then some (s.rawP.setWidth 32) else none
  | 0xB => if s.shownRawValid .temperature then some (s.rawT.setWidth 32) else none
  | 0xC => if s.outValid then some s.temp else none
  | 0xD => if s.outValid then some s.press else none
  | _ => some 0

/-- A host read completes at any moment and has no side effect on the engine; of a register that holds no value it
returns an unspecified word, a free value (30_encoding.md R56; log 5). -/
def hostRead (addr : HostAddr) (s : State) : State :=
  match hostValue addr s with
  | some v => { s with replies := s.replies ++ [⟨addr, v⟩] }
  | none =>
    { s with
      replies := s.replies ++ [⟨addr, Config.unspecifiedWord s.readDraws⟩]
      readDraws := s.readDraws + 1 }

/-- The host's pending accesses after the first. -/
def dropInput (s : State) : State := { s with inputs := s.inputs.tail }

/-- A command word stands next at the CMD port and the port is ready (10_state.md R26). -/
def presentWord (w : Word) (s : State) : State := { s with seq := .idle, inputs := .write cmdAddr w :: s.inputs }

end Sys2Proof.Machine
end

