-- ==== Sys2Proof/Machine/CommandPort.lean ====
section
/-! DEFINITION. The command port (10_state.md R26) and the host's command sequences (30_encoding.md R61). -/

namespace Sys2Proof.Machine

/-- A word accepted at CMD, the command run to its end (10_state.md R26, 70_reset_and_hazards.md R130). -/
def acceptWord (w : Word) (s : State) : Host.Outcome State Fault Refusal :=
  match decode w with
  | .ok i => exec i s
  | .error _ => .next (illegalWord s)

/-- A word accepted at CMD, the command only started. -/
def postWord (w : Word) (s : State) : State :=
  match decode w with
  | .ok i => startInstr i s
  | .error _ => illegalWord s

/-- A host write whose sender waits for the command's end. At CMD it waits while BUSY = 1, and the sequencer goes on
meanwhile (10_state.md R26); at any other address it is ignored (20_memory.md R43). -/
def hostWrite (addr : HostAddr) (data : Word) (s : State) : Host.Outcome State Fault Refusal :=
  if addr ≠ cmdAddr then .next (dropInput s)
  else if s.busy then .next (tick s)
  else acceptWord data (dropInput s)

/-- A host write whose sender goes on at once; it waits and is ignored as `hostWrite` is. -/
def hostPost (addr : HostAddr) (data : Word) (s : State) : Host.Outcome State Fault Refusal :=
  if addr ≠ cmdAddr then .next (dropInput s)
  else if s.busy then .next (tick s)
  else .next (postWord data (dropInput s))

/-- One access of the host. -/
def hostAccess (a : HostInput) (s : State) : Host.Outcome State Fault Refusal :=
  match a with
  | .write addr data => hostWrite addr data s
  | .post addr data => hostPost addr data s
  | .read addr => .next (hostRead addr (dropInput s))
  | .reset => .next (resetEngine (dropInput s))
  | .elapse => .next (tick (dropInput s))

/-- Commands issued one after the other, each after the previous one has finished; the host abandons the rest when
one finishes with `ERR != OK`: how the host runs CYCLE's expansion (30_encoding.md R61). A host that goes on after an
error has its commands in `State.inputs` instead (log 22). -/
def runCommands : List Instr → State → Host.Outcome State Fault Refusal
  | [], s => .next s
  | i :: is, s =>
    match exec i s with
    | .next t => if t.err = .ok then runCommands is t else .next t
    | .fault r => .fault r
    | .refused r => .refused r

end Sys2Proof.Machine
end

