-- ==== Sys2Proof/Machine/Step.lean ====
section
/-! DEFINITION. One step of the machine: the host's next access, or without one a sequencer transition. -/

namespace Sys2Proof.Machine

/-- One step. The engine never stops (70_reset_and_hazards.md R130): with no access pending the sequencer makes one
transition, which at IDLE changes nothing (log 17). -/
def step (s : State) : Host.Outcome State Fault Refusal :=
  match s.inputs with
  | [] => .next (tick s)
  | a :: _ => hostAccess a s

/-- `s` with the instruction word `w` next at the CMD port and the port ready (log 10). -/
def State.withFetchWord (s : State) (nbits w : Nat) : State := presentWord (BitVec.ofNat 32 (w % 2 ^ nbits)) s

end Sys2Proof.Machine
end

