-- ==== Sys2Proof/Machine/Datapath64.lean ====
section
/-! DEFINITION. The 64-bit two's complement datapath that 43_comp.md R97 says computes exactly the integer result
(`W_ACC`, 00_scope.md R7). `exec` runs the integer form; this one is what it is compared with. -/

namespace Sys2Proof.Machine

/-- An accumulator. -/
abbrev Acc := BitVec 64

/-- The eight inputs of `compensate`, zero-extended into accumulators (43_comp.md R97). -/
structure AccIn where
  rawTemp : Acc
  rawPressure : Acc
  c1 : Acc
  c2 : Acc
  c3 : Acc
  c4 : Acc
  c5 : Acc
  c6 : Acc
deriving DecidableEq, Repr

/-- Registers zero-extended on entry (43_comp.md R97). -/
def accInOf (rawT rawP : Sample) (k : Consts) : AccIn where
  rawTemp := rawT.setWidth 64
  rawPressure := rawP.setWidth 64
  c1 := k.c1.setWidth 64
  c2 := k.c2.setWidth 64
  c3 := k.c3.setWidth 64
  c4 := k.c4.setWidth 64
  c5 := k.c5.setWidth 64
  c6 := k.c6.setWidth 64

/-- `dT` (43_comp.md R91) in an accumulator. -/
def diffT64 (x : AccIn) : Acc := x.rawTemp - (x.c5 <<< 8)

/-- Stage-1 `T` (43_comp.md R91). -/
def firstT64 (x : AccIn) : Acc := 2000#64 + (x.c6 * diffT64 x).sshiftRight 23

/-- Stage-1 `OFF` (43_comp.md R91). -/
def firstOff64 (x : AccIn) : Acc := (x.c2 <<< 16) + (x.c4 * diffT64 x).sshiftRight 7

/-- Stage-1 `SENS` (43_comp.md R91). -/
def firstSens64 (x : AccIn) : Acc := (x.c1 <<< 15) + (x.c3 * diffT64 x).sshiftRight 8

/-- `(T - 2000)^2` (43_comp.md R93). -/
def square64 (t : Acc) : Acc := (t - 2000#64) * (t - 2000#64)

/-- `tmp` (43_comp.md R94). -/
def tmp64 (t : Acc) : Acc := (t + 1500#64) * (t + 1500#64)

/-- `T2`; zero when stage 2 is skipped (43_comp.md R92, R93). -/
def t2Of64 (dT t : Acc) : Acc := if t.slt 2000#64 then (dT * dT).sshiftRight 31 else 0#64

/-- `OFF2`; zero when stage 2 is skipped (43_comp.md R92 to R94). -/
def off2Of64 (t : Acc) : Acc :=
  if t.slt 2000#64 then
    if t.slt (-1500#64) then (5#64 * square64 t).sshiftRight 1 + 7#64 * tmp64 t else (5#64 * square64 t).sshiftRight 1
  else 0#64

/-- `SENS2`; zero when stage 2 is skipped (43_comp.md R92 to R94). -/
def sens2Of64 (t : Acc) : Acc :=
  if t.slt 2000#64 then
    if t.slt (-1500#64) then
      ((5#64 * square64 t).sshiftRight 1).sshiftRight 1 + (11#64 * tmp64 t).sshiftRight 1
    else ((5#64 * square64 t).sshiftRight 1).sshiftRight 1
  else 0#64

/-- The compensated temperature (43_comp.md R95). -/
def temperature64 (x : AccIn) : Acc := firstT64 x - t2Of64 (diffT64 x) (firstT64 x)

/-- The compensated pressure (43_comp.md R95, R96). -/
def pressure64 (x : AccIn) : Acc :=
  ((x.rawPressure * (firstSens64 x - sens2Of64 (firstT64 x))).sshiftRight 21
    - (firstOff64 x - off2Of64 (firstT64 x))).sshiftRight 15

end Sys2Proof.Machine
end

