-- ==== Sys2Proof/Safety.lean ====
section
/-! DEFINITION. What a safe run keeps: the invariants that the statements are about, in the spec's own terms. -/

namespace Sys2Proof.Machine

/-- The events of the first `n` reads of CAL.LOAD when the bus answers with the words of `img` (41_cal.md R79). -/
def imageReads (img : PromImage) (n : Nat) : List BusEvent :=
  ((List.finRange 8).take n).map (fun i => .wordRead (promOffset i) (.ok img[i]))

/-- The events of a whole conversion that ran at row `idx` (42_conv.md R83). -/
def conversionEvents (ch : Channel) (idx : Fin 5) (w : Nat) (answer : Answer Block) : List BusEvent :=
  [.commandWrite (commandOf ch idx) (.ok ()), .sleep (delayOf idx) w, .blockRead Config.params.adcReg answer]

/-- A wait of `d` microseconds lasted `w`: `d <= w <= d * 1.1` (42_conv.md R86). -/
def WaitInRange (d w : Nat) : Prop := d ≤ w ∧ 10 * w ≤ 11 * d

/-- Every block read is of the ADC register and directly preceded by a long enough sleep of the row whose command byte
the write directly before it wrote (20_memory.md R50, 42_conv.md R86, R89). -/
def ReadsSettled (trace : List BusEvent) : Prop :=
  ∀ pre reg a post, trace = pre ++ .blockRead reg a :: post →
    reg = Config.params.adcReg ∧
    ∃ pre' ch idx w, WaitInRange (delayOf idx) w ∧
      pre = pre' ++ [.commandWrite (commandOf ch idx) (.ok ()), .sleep (delayOf idx) w]

/-- What the trace and the flags hold at each sequencer state (10_state.md R27; 41_cal.md R79; 42_conv.md R83;
43_comp.md R99). -/
def SeqMatchesTrace (s : State) : Prop :=
  match s.seq with
  | .idle => True
  | .calRd i => s.calValid = false ∧ ∃ pre, s.trace = pre ++ imageReads s.prom i.val
  | .calCrc => s.calValid = false ∧ ∃ pre, s.trace = pre ++ imageReads s.prom 8
  | .convCmd ch => s.rawValid ch = false
  | .convWait ch => s.rawValid ch = false ∧ ∃ pre, s.trace = pre ++ [.commandWrite (s.row ch).cmd (.ok ())]
  | .convRd ch =>
    s.rawValid ch = false ∧ WaitInRange (s.row ch).delay s.timer ∧
      ∃ pre, s.trace = pre ++ [.commandWrite (s.row ch).cmd (.ok ()), .sleep (s.row ch).delay s.timer]
  | .compRun => s.calValid = true ∧ s.rawTValid = true ∧ s.rawPValid = true

/-- `CAL_VALID = 1` means the constants are those of a PROM image that was read in full and passed the check
(10_state.md R15). -/
def CalibSound (s : State) : Prop :=
  s.calValid = true →
    ∃ pre post img, s.trace = pre ++ imageReads img 8 ++ post ∧ validImage img = true ∧ s.calib = constsOf img

/-- A valid sample, as the host or COMP sees it, is what the block read of a complete conversion of its channel
returned (10_state.md R20, R21). -/
def SampleSound (s : State) (ch : Channel) : Prop :=
  s.shownRawValid ch = true →
    ∃ pre post idx w b,
      s.trace = pre ++ conversionEvents ch idx w (.ok b) ++ post ∧ s.raw ch = assembleSample b

/-- The engine's invariant. -/
structure Inv (s : State) : Prop where
  reads : ReadsSettled s.trace
  seq : SeqMatchesTrace s
  calib : CalibSound s
  pressure : SampleSound s .pressure
  temperature : SampleSound s .temperature

/-- A valid reading is within the bounds of 10_state.md R22. -/
def ReadingInRange (s : State) : Prop :=
  s.outValid = true →
    (-260137 ≤ s.temp.toInt ∧ s.temp.toInt ≤ 133069) ∧ (-2 ^ 25 < s.press.toInt ∧ s.press.toInt < 2 ^ 25)

end Sys2Proof.Machine
end

