-- ==== Sys2Proof/Certificates/Slice0/Obligations.lean ====
section
/-! DEFINITION. The statements for the provers. Each docstring names the rule of spec/ it formalises. -/

open Sys2Proof Sys2Proof.Machine

/-! ### Encoding and decoding -/

/-- Every well-formed command, with every operand value the encoding admits, decodes from its own word
(30_encoding.md sections 1 and 6). -/
def Obligations.DecodeOfEncodeIsIdentity : Prop :=
  ∀ i : Instr, i.wellFormed = true → decode (encode i) = .ok i

/-- Every word that decodes to a command is that command's one encoding (30_encoding.md sections 1 and 6). -/
def Obligations.EncodeOfDecodeIsIdentity : Prop :=
  ∀ (w : Word) (i : Instr), decode w = .ok i → i.wellFormed = true ∧ encode i = w

/-- 30_encoding.md R63: the six match/mask pairs; they are disjoint, since each word decodes to one command. -/
def Obligations.DecodingFollowsMatchAndMask : Prop :=
  ∀ w : Word,
    (decode w = .ok .calLoad ↔ w &&& 0xFFFFFFFF#32 = 0x10000000#32) ∧
    (decode w = .ok .convP ↔ w &&& 0xFFFFFFFF#32 = 0x40000000#32) ∧
    (decode w = .ok .convT ↔ w &&& 0xFFFFFFFF#32 = 0x50000000#32) ∧
    (decode w = .ok .comp ↔ w &&& 0xFFFFFFFF#32 = 0x60000000#32) ∧
    (∀ rate, decode w = .ok (.osrSetp rate) ↔ w &&& 0xFFFF0000#32 = 0x20000000#32 ∧ rate = w.toNat % 65536) ∧
    (∀ rate, decode w = .ok (.osrSett rate) ↔ w &&& 0xFFFF0000#32 = 0x30000000#32 ∧ rate = w.toNat % 65536)

/-- 30_encoding.md R54: exactly which words are illegal (the fields are written out as numbers: `w[31:28]`,
`w[27:16]`, `w[15:0]`), and that an illegal word written to CMD while BUSY = 0 sets ERR and nothing else. -/
def Obligations.IllegalWordsEndWithEIllegal : Prop :=
  (∀ w : Word, (∃ e, decode w = .error e) ↔
    (w.toNat / 2 ^ 28 = 0 ∨ 7 ≤ w.toNat / 2 ^ 28 ∨ w.toNat / 2 ^ 16 % 2 ^ 12 ≠ 0 ∨
      ((w.toNat / 2 ^ 28 = 1 ∨ w.toNat / 2 ^ 28 = 4 ∨ w.toNat / 2 ^ 28 = 5 ∨ w.toNat / 2 ^ 28 = 6) ∧
        w.toNat % 2 ^ 16 ≠ 0))) ∧
  (∀ (s : State) (w : Word) (rest : List HostInput) (e : Illegal), s.busy = false → decode w = .error e →
    (s.inputs = .write cmdAddr w :: rest ∨ s.inputs = .post cmdAddr w :: rest) →
    step s = .next { s with inputs := rest, err := .eIllegal })

/-- A few words written out from the table of 30_encoding.md R52 and the examples of R60 decode to the commands they
stand for. -/
def Obligations.SpecWordsDecode : Prop :=
  decode 0x10000000#32 = .ok .calLoad ∧
  decode 0x20000400#32 = .ok (.osrSetp 1024) ∧
  decode 0x30001000#32 = .ok (.osrSett 4096) ∧
  decode 0x30000BB8#32 = .ok (.osrSett 3000) ∧
  decode 0x40000000#32 = .ok .convP ∧
  decode 0x50000000#32 = .ok .convT ∧
  decode 0x60000000#32 = .ok .comp

/-! ### The step -/

/-- A step runs the decoded command: while BUSY = 0, a word at the head of the host's accesses that decodes to `i`
runs as `exec i`, with the access taken off the list (10_state.md section 6). -/
def Obligations.StepRunsTheDecodedCommand : Prop :=
  (∀ (s : State) (w : Word) (rest : List HostInput) (i : Instr), s.busy = false →
    s.inputs = .write cmdAddr w :: rest → decode w = .ok i →
    step s = exec i { s with inputs := rest }) ∧
  (∀ (s : State) (w : Nat) (i : Instr), decode (BitVec.ofNat 32 (w % 2 ^ 32)) = .ok i →
    step (s.withFetchWord 32 w) = exec i { s with seq := .idle })

/-- Nothing stops the engine: every step of every state answers a next state (70_reset_and_hazards.md section 4:
"The engine itself never stops"; 60_exceptions.md section 3). -/
def Obligations.EveryStepAnswersNext : Prop := ∀ s : State, ∃ t, step s = .next t

/-- While BUSY = 1 the command port accepts no write: the write stays at the head of the host's accesses and the
running command goes on by one transition (10_state.md section 6). -/
def Obligations.BusyPortHoldsTheWrite : Prop :=
  ∀ (s : State) (w : Word) (rest : List HostInput), s.busy = true →
    (s.inputs = .write cmdAddr w :: rest ∨ s.inputs = .post cmdAddr w :: rest) →
    step s = .next (tick s) ∧ (tick s).inputs = s.inputs

/-- A write to any address but CMD is ignored, at any moment (20_memory.md section 5). -/
def Obligations.WritesElsewhereAreIgnored : Prop :=
  ∀ (s : State) (a : HostAddr) (w : Word) (rest : List HostInput), a ≠ cmdAddr →
    (s.inputs = .write a w :: rest ∨ s.inputs = .post a w :: rest) →
    step s = .next { s with inputs := rest }

/-- A command started by a posted write, with any host reads in between its transitions, ends in the state the command
gives as one transition; only the replies to the reads differ (10_state.md section 6, decision D18). That `post` starts
a command, that `elapse` is one transition and that a transition is one bus transaction with its answer is the model's
reading (log 7); the bus is taken to answer every transaction (log 2). -/
def Obligations.SequencerRefinesTheCommand : Prop :=
  ∀ (s u : State) (w : Word) (i : Instr) (between : List HostInput), s.busy = false → decode w = .ok i →
    (∀ a ∈ between, a = .elapse ∨ ∃ addr, a = .read addr) → maxTicks ≤ between.count .elapse →
    exec i { s with inputs := [] } = .next u →
    ∃ t, Host.Core.run Sys2Proof.core (between.length + 1) { s with inputs := .post cmdAddr w :: between } = .next t ∧
      { t with replies := s.replies, readDraws := s.readDraws } = u

/-- Every command ends: from any state, the sequencer left alone is at IDLE after at most nine transitions, and a
command accepted while BUSY = 0 leaves BUSY = 0 (70_reset_and_hazards.md section 4; the bus is taken to answer, log 2). -/
def Obligations.EveryCommandEnds : Prop :=
  (∀ s : State, ∃ t, Host.Core.run Sys2Proof.core maxTicks { s with inputs := [] } = .next t ∧ t.busy = false) ∧
  (∀ (i : Instr) (s : State), s.busy = false → ∃ t, exec i s = .next t ∧ t.busy = false)

/-! ### OversamplingTable -/

/-- 40_osr.md R68: `resolve` finds exactly the rows of the five rates, by equality of the whole operand. -/
def Obligations.ResolveFindsExactlyTheFiveRates : Prop :=
  ∀ (ch : Channel) (rate : Nat) (row : OsrRow),
    (resolve ch rate = some row ↔
      (rate = 256 ∧ row = ⟨256, commandOf ch 0, delayOf 0⟩) ∨ (rate = 512 ∧ row = ⟨512, commandOf ch 1, delayOf 1⟩) ∨
      (rate = 1024 ∧ row = ⟨1024, commandOf ch 2, delayOf 2⟩) ∨ (rate = 2048 ∧ row = ⟨2048, commandOf ch 3, delayOf 3⟩) ∨
      (rate = 4096 ∧ row = ⟨4096, commandOf ch 4, delayOf 4⟩)) ∧
    (resolve ch rate = none ↔ rate ≠ 256 ∧ rate ≠ 512 ∧ rate ≠ 1024 ∧ rate ≠ 2048 ∧ rate ≠ 4096)

/-- The equivalent bit test that 40_osr.md section 1 derives: bits 15:13 and 7:0 zero and one bit of 12:8 set, the
index being its position minus 8. -/
def Obligations.RateBitTest : Prop :=
  ∀ (rate : Half) (idx : Fin 5),
    rateIndex rate.toNat = some idx ↔
      rate.extractLsb' 13 3 = 0 ∧ rate.extractLsb' 0 8 = 0 ∧ rate.extractLsb' 8 5 = BitVec.twoPow 5 idx.val

/-- The tables meet 00_scope.md R8 (decisions D31, D32), whatever the OPEN parameters are: the ten command bytes are
pairwise distinct, the delays strictly increasing, and no PROM offset wraps (20_memory.md section 2). -/
def Obligations.TablesMeetTheirConstraints : Prop :=
  (∀ (ch ch' : Channel) (i j : Fin 5), commandOf ch i = commandOf ch' j → ch = ch' ∧ i = j) ∧
  (∀ i j : Fin 5, i < j → delayOf i < delayOf j) ∧
  (∀ i : Fin 8, (promOffset i).toNat = Config.params.caliBase.toNat + 2 * i.val)

/-- 40_osr.md R69, whole: the word, what a valid rate writes and what an invalid one does; nothing else changes. -/
def Obligations.SetPressureRate : Prop :=
  (∀ rate : Nat, rate < 65536 → (encode (.osrSetp rate)).toNat = 0x20000000 + rate) ∧
  (∀ (s : State) (idx : Fin 5), s.busy = false →
    exec (.osrSetp (2 ^ (idx.val + 8))) s = .next { s with osrP := idx, err := .ok }) ∧
  (∀ (s : State) (rate : Nat), s.busy = false → (∀ idx : Fin 5, rate ≠ 2 ^ (idx.val + 8)) →
    exec (.osrSetp rate) s = .next { s with err := .eRate })

/-- 40_osr.md R70, whole: as R69 for the temperature channel. -/
def Obligations.SetTemperatureRate : Prop :=
  (∀ rate : Nat, rate < 65536 → (encode (.osrSett rate)).toNat = 0x30000000 + rate) ∧
  (∀ (s : State) (idx : Fin 5), s.busy = false →
    exec (.osrSett (2 ^ (idx.val + 8))) s = .next { s with osrT := idx, err := .ok }) ∧
  (∀ (s : State) (rate : Nat), s.busy = false → (∀ idx : Fin 5, rate ≠ 2 ^ (idx.val + 8)) →
    exec (.osrSett rate) s = .next { s with err := .eRate })

/-! ### CalibrationStore and CRC-4 -/

/-- 41_cal.md R74 in numbers: the top bit is tested, the register doubles within sixteen bits, and 0x3000 is XORed in
when the tested bit was set. -/
def Obligations.CrcIteration : Prop :=
  ∀ r : Half, (crcShift r).toNat =
    if 32768 ≤ r.toNat then (2 * r.toNat % 65536) ^^^ 0x3000 else 2 * r.toNat

/-- The CRC-4 of a bit string, most significant bit first: generator x^4 + x + 1, register 0, no reflection, no final
XOR. The reference that 41_cal.md R81 (a) compares `crc4` with. -/
def plainCrc4 (bits : List Bool) : BitVec 4 :=
  bits.foldl (fun r b => (if r.msb then r <<< 1 ^^^ 0x3#4 else r <<< 1) ^^^ (BitVec.ofBool b).setWidth 4) 0

/-- The 120 message bits of an image, fifteen bytes with the most significant bit of each first, and four zero bits. -/
def messageBits (img : PromImage) : List Bool :=
  ((imageBytes img).take 15).flatMap (fun b => (List.range 8).map (fun k => b.getLsbD (7 - k))) ++ List.replicate 4 false

/-- `crc4` is the plain CRC-4 of the fifteen bytes (41_cal.md section 3, property (a), which the spec derives). -/
def Obligations.CrcIsThePlainCrc4 : Prop := ∀ img : PromImage, crc4 img = plainCrc4 (messageBits img)

/-- Wordwise exclusive-or of two images. -/
def xorImage (a b : PromImage) : PromImage := Vector.zipWith (· ^^^ ·) a b

/-- `crc4` is linear (41_cal.md section 3, property (b), which the spec derives). -/
def Obligations.CrcIsLinear : Prop :=
  (∀ a b : PromImage, crc4 (xorImage a b) = crc4 a ^^^ crc4 b) ∧ crc4 (Vector.replicate 8 0) = 0

/-- `img` with one bit inverted. -/
def flipBit (img : PromImage) (i : Fin 8) (bit : Fin 16) : PromImage := img.set i (img[i] ^^^ BitVec.twoPow 16 bit.val)

/-- Of a valid image, inverting any bit but bits 7:4 of word 7 is detected, and inverting one of those four is not
(41_cal.md section 3, property (c), which the spec derives; 90_conflicts.md C4). -/
def Obligations.SingleBitErrorsAreDetected : Prop :=
  ∀ (img : PromImage) (i : Fin 8) (bit : Fin 16), validImage img = true →
    (validImage (flipBit img i bit) = true ↔ i = 7 ∧ 4 ≤ bit.val ∧ bit.val ≤ 7)

/-- 41_cal.md R78: the validation predicate, and that an image whose computed CRC is 0 is never valid. -/
def Obligations.ValidationPredicate : Prop :=
  ∀ img : PromImage,
    (validImage img = true ↔ img[7].toNat % 16 ≠ 0 ∧ (crc4 img).toNat = img[7].toNat % 16) ∧
    (crc4 img = 0 → validImage img = false)

/-- The twelve low bits of the final register are always 0 (41_cal.md R76's closing remark, which the spec derives). -/
def Obligations.CrcLowBitsAreZero : Prop := ∀ img : PromImage, (crcRegister img).toNat % 4096 = 0

/-- The seven words and the high byte of word 7 decide the CRC: the low byte of word 7 takes no part (41_cal.md
section 1: the mask of word 7; 90_conflicts.md C1). -/
def Obligations.LowByteOfWordSevenIsMasked : Prop :=
  ∀ (img : PromImage) (w : Half), w.toNat / 256 = img[7].toNat / 256 → crc4 (img.set 7 w) = crc4 img

/-- CAL.LOAD (41_cal.md section 2): the word; with eight words read, success or E_INTEGRITY by the predicate; with the
first failing read at word `k`, E_IO and no later read; on a validated store E_STATE and no bus event. The model's
choice: that PROM and CRCREG, which hold no value afterwards, take free values (log 6), also after E_STATE (log 21). No
other register changes. -/
def Obligations.CalLoadOutcomes : Prop :=
  encode .calLoad = 0x10000000#32 ∧
  (∀ (s : State) (img : PromImage), s.busy = false → s.calValid = false →
    (∀ i : Fin 8, s.words.nth Config.freeWord i.val = .ok img[i]) → validImage img = true →
    exec .calLoad s = .next { s with
      calib := ⟨img[1], img[2], img[3], img[4], img[5], img[6]⟩
      calValid := true
      err := .ok
      prom := Config.noImage s.noValues
      crcReg := Config.noCrc s.noValues
      noValues := s.noValues + 1
      words := s.words.skip 8
      trace := s.trace ++ imageReads img 8 }) ∧
  (∀ (s : State) (img : PromImage), s.busy = false → s.calValid = false →
    (∀ i : Fin 8, s.words.nth Config.freeWord i.val = .ok img[i]) → validImage img = false →
    exec .calLoad s = .next { s with
      err := .eIntegrity
      prom := Config.noImage s.noValues
      crcReg := Config.noCrc s.noValues
      noValues := s.noValues + 1
      words := s.words.skip 8
      trace := s.trace ++ imageReads img 8 }) ∧
  (∀ (s : State) (img : PromImage) (k : Fin 8), s.busy = false → s.calValid = false →
    (∀ i : Fin 8, i < k → s.words.nth Config.freeWord i.val = .ok img[i]) →
    s.words.nth Config.freeWord k.val = .ioError →
    exec .calLoad s = .next { s with
      err := .eIo
      prom := Config.noImage s.noValues
      crcReg := Config.noCrc s.noValues
      noValues := s.noValues + 1
      words := s.words.skip (k.val + 1)
      trace := s.trace ++ (imageReads img k.val ++ [.wordRead (promOffset k) .ioError]) }) ∧
  (∀ s : State, s.busy = false → s.calValid = true →
    exec .calLoad s = .next { s with
      err := .eState
      prom := Config.noImage s.noValues
      crcReg := Config.noCrc s.noValues
      noValues := s.noValues + 1 })

/-- CAL.LOAD's frame, in every outcome and every state: it never touches the settings, the samples and their flags or
the reading; the constants and CAL_VALID change only on success (41_cal.md section 2). -/
def Obligations.CalLoadFrame : Prop :=
  ∀ s t : State, exec .calLoad s = .next t →
    t.osrP = s.osrP ∧ t.osrT = s.osrT ∧ t.rawP = s.rawP ∧ t.rawT = s.rawT ∧ t.rawPValid = s.rawPValid ∧
    t.rawTValid = s.rawTValid ∧ t.temp = s.temp ∧ t.press = s.press ∧ t.outValid = s.outValid ∧ t.timer = s.timer ∧
    (t.err ≠ .ok → t.calib = s.calib ∧ t.calValid = s.calValid) ∧
    t.heldValid = s.heldValid ∧ t.inputs = s.inputs ∧ t.replies = s.replies ∧ t.writes = s.writes ∧
    t.blocks = s.blocks ∧ t.sleeps = s.sleeps ∧ t.readDraws = s.readDraws

/-- The constants are immutable: no step but a reset alters them once they are valid, and CAL_VALID is cleared only by
reset (10_state.md section 2). -/
def Obligations.CalibrationIsImmutable : Prop :=
  ∀ (s t : State), s.calValid = true → SeqMatchesTrace s → s.inputs.head? ≠ some .reset → step s = .next t →
    t.calValid = true ∧ t.calib = s.calib

/-! ### ConversionSequencer -/

/-- CONV.P (42_conv.md sections 1 to 3): the word; success; a failed command write (no sleep, no read); a failed block read.
The model's choices: the wait is `settleTime` of the draw (log 3), TIMER keeps it (log 15), `RAWP` takes a free value
after a failure (log 6), and `heldValid` keeps the old flag (log 8). No other register changes. -/
def Obligations.ConvertPressureOutcomes : Prop :=
  encode .convP = 0x40000000#32 ∧
  (∀ (s : State) (b : Block), s.busy = false → s.nextWrite = .ok () → s.nextBlock = .ok b →
    exec .convP s = .next { s with
      rawP := assembleSample b
      rawPValid := true
      heldValid := s.rawPValid
      timer := settleTime (delayOf s.osrP) s.nextExcess
      err := .ok
      writes := s.writes.advance
      sleeps := s.sleeps.advance
      blocks := s.blocks.advance
      trace := s.trace ++
        [.commandWrite (commandOf .pressure s.osrP) (.ok ()),
         .sleep (delayOf s.osrP) (settleTime (delayOf s.osrP) s.nextExcess),
         .blockRead Config.params.adcReg (.ok b)] }) ∧
  (∀ s : State, s.busy = false → s.nextWrite = .ioError →
    exec .convP s = .next { s with
      rawP := Config.noSample s.noValues
      rawPValid := false
      heldValid := s.rawPValid
      noValues := s.noValues + 1
      err := .eIo
      writes := s.writes.advance
      trace := s.trace ++ [.commandWrite (commandOf .pressure s.osrP) .ioError] }) ∧
  (∀ s : State, s.busy = false → s.nextWrite = .ok () → s.nextBlock = .ioError →
    exec .convP s = .next { s with
      rawP := Config.noSample s.noValues
      rawPValid := false
      heldValid := s.rawPValid
      noValues := s.noValues + 1
      timer := settleTime (delayOf s.osrP) s.nextExcess
      err := .eIo
      writes := s.writes.advance
      sleeps := s.sleeps.advance
      blocks := s.blocks.advance
      trace := s.trace ++
        [.commandWrite (commandOf .pressure s.osrP) (.ok ()),
         .sleep (delayOf s.osrP) (settleTime (delayOf s.osrP) s.nextExcess),
         .blockRead Config.params.adcReg .ioError] })

/-- CONV.T (42_conv.md sections 1 to 3): as for the pressure channel, with the same choices of the model: the wait (log 3),
TIMER (log 15), the free value in `RAWT` after a failure (log 6), `heldValid` (log 8). -/
def Obligations.ConvertTemperatureOutcomes : Prop :=
  encode .convT = 0x50000000#32 ∧
  (∀ (s : State) (b : Block), s.busy = false → s.nextWrite = .ok () → s.nextBlock = .ok b →
    exec .convT s = .next { s with
      rawT := assembleSample b
      rawTValid := true
      heldValid := s.rawTValid
      timer := settleTime (delayOf s.osrT) s.nextExcess
      err := .ok
      writes := s.writes.advance
      sleeps := s.sleeps.advance
      blocks := s.blocks.advance
      trace := s.trace ++
        [.commandWrite (commandOf .temperature s.osrT) (.ok ()),
         .sleep (delayOf s.osrT) (settleTime (delayOf s.osrT) s.nextExcess),
         .blockRead Config.params.adcReg (.ok b)] }) ∧
  (∀ s : State, s.busy = false → s.nextWrite = .ioError →
    exec .convT s = .next { s with
      rawT := Config.noSample s.noValues
      rawTValid := false
      heldValid := s.rawTValid
      noValues := s.noValues + 1
      err := .eIo
      writes := s.writes.advance
      trace := s.trace ++ [.commandWrite (commandOf .temperature s.osrT) .ioError] }) ∧
  (∀ s : State, s.busy = false → s.nextWrite = .ok () → s.nextBlock = .ioError →
    exec .convT s = .next { s with
      rawT := Config.noSample s.noValues
      rawTValid := false
      heldValid := s.rawTValid
      noValues := s.noValues + 1
      timer := settleTime (delayOf s.osrT) s.nextExcess
      err := .eIo
      writes := s.writes.advance
      sleeps := s.sleeps.advance
      blocks := s.blocks.advance
      trace := s.trace ++
        [.commandWrite (commandOf .temperature s.osrT) (.ok ()),
         .sleep (delayOf s.osrT) (settleTime (delayOf s.osrT) s.nextExcess),
         .blockRead Config.params.adcReg .ioError] })

/-- The conversions' frame, in every outcome and every state: a conversion touches no setting, no constant, no reading
and nothing of the other channel (42_conv.md section 2). -/
def Obligations.ConversionFrame : Prop :=
  (∀ s t : State, exec .convP s = .next t →
    t.calib = s.calib ∧ t.calValid = s.calValid ∧ t.prom = s.prom ∧ t.crcReg = s.crcReg ∧ t.osrP = s.osrP ∧
    t.osrT = s.osrT ∧ t.rawT = s.rawT ∧ t.rawTValid = s.rawTValid ∧ t.temp = s.temp ∧ t.press = s.press ∧
    t.outValid = s.outValid ∧ t.inputs = s.inputs ∧ t.replies = s.replies ∧ t.words = s.words) ∧
  (∀ s t : State, exec .convT s = .next t →
    t.calib = s.calib ∧ t.calValid = s.calValid ∧ t.prom = s.prom ∧ t.crcReg = s.crcReg ∧ t.osrP = s.osrP ∧
    t.osrT = s.osrT ∧ t.rawP = s.rawP ∧ t.rawPValid = s.rawPValid ∧ t.temp = s.temp ∧ t.press = s.press ∧
    t.outValid = s.outValid ∧ t.inputs = s.inputs ∧ t.replies = s.replies ∧ t.words = s.words)

/-- The settling wait (42_conv.md section 3): it lasts from `d` to `1.1 d` microseconds, and every whole number of
microseconds in that range is possible (whole microseconds are the model's choice, log 3). -/
def Obligations.SettlingWaitRange : Prop :=
  (∀ d e : Nat, d ≤ settleTime d e ∧ 10 * settleTime d e ≤ 11 * d) ∧
  (∀ d w : Nat, d ≤ w → 10 * w ≤ 11 * d → ∃ e, settleTime d e = w)

/-- 42_conv.md R87: the sample in numbers. -/
def Obligations.SampleAssembly : Prop :=
  ∀ b : Block, (assembleSample b).toNat = b.b0.toNat * 65536 + b.b1.toNat * 256 + b.b2.toNat ∧
    (assembleSample b).toNat ≤ 16777215

/-! ### CompensationEngine -/

/-- 43_comp.md R91 to R96, in the three cases of stage 2, each shift written out as floor division. -/
def Obligations.CompensateFollowsTheStages : Prop :=
  ∀ (x : CompIn) (dT off sens t off2 sens2 tmp : Int),
    dT = x.rawTemp - 256 * x.c5 →
    off = 65536 * x.c2 + Int.fdiv (x.c4 * dT) 128 →
    sens = 32768 * x.c1 + Int.fdiv (x.c3 * dT) 256 →
    t = 2000 + Int.fdiv (x.c6 * dT) 8388608 →
    off2 = Int.fdiv (5 * ((t - 2000) * (t - 2000))) 2 →
    sens2 = Int.fdiv off2 2 →
    tmp = (t + 1500) * (t + 1500) →
    (2000 ≤ t → compensate x = (t, Int.fdiv (Int.fdiv (x.rawPressure * sens) 2097152 - off) 32768)) ∧
    (-1500 ≤ t → t < 2000 → compensate x =
      (t - Int.fdiv (dT * dT) 2147483648,
       Int.fdiv (Int.fdiv (x.rawPressure * (sens - sens2)) 2097152 - (off - off2)) 32768)) ∧
    (t < -1500 → compensate x =
      (t - Int.fdiv (dT * dT) 2147483648,
       Int.fdiv (Int.fdiv (x.rawPressure * (sens - (sens2 + Int.fdiv (11 * tmp) 2))) 2097152
         - (off - (off2 + 7 * tmp))) 32768))

/-- When stage 2 runs (43_comp.md R92's closing remark, which the spec derives): exactly when `c6 >= 1` and
`dT <= -1`. -/
def Obligations.StageTwoRunsBelowReference : Prop :=
  ∀ (rawT rawP : Sample) (k : Consts),
    (firstOrder (compInOf rawT rawP k)).t < 2000 ↔ 1 ≤ k.c6.toNat ∧ diffT (compInOf rawT rawP k) ≤ -1

/-- The reference point `dT = 0` (43_comp.md section 4, property (a), which the spec derives). -/
def Obligations.ReferencePoint : Prop :=
  ∀ x : CompIn, x.rawTemp = x.c5 * 256 →
    compensate x =
      (2000, Int.fdiv (Int.fdiv (x.rawPressure * (32768 * x.c1)) 2097152 - 65536 * x.c2) 32768)

/-- The low-temperature correction never raises the temperature, OFF or SENS (43_comp.md section 4, property (c),
which the spec derives). -/
def Obligations.CorrectionNeverRaises : Prop :=
  ∀ x : CompIn, (corrected x).t ≤ (firstOrder x).t ∧ (corrected x).off ≤ (firstOrder x).off ∧
    (corrected x).sens ≤ (firstOrder x).sens

/-- The outputs' bounds for every register content (43_comp.md section 2, the table the spec derives). -/
def Obligations.OutputsAreBounded : Prop :=
  ∀ (rawT rawP : Sample) (k : Consts),
    -260137 ≤ (compensate (compInOf rawT rawP k)).1 ∧ (compensate (compInOf rawT rawP k)).1 ≤ 133069 ∧
    -28536486 ≤ (compensate (compInOf rawT rawP k)).2 ∧ (compensate (compInOf rawT rawP k)).2 ≤ 6622105

/-- 43_comp.md R97: a 64-bit two's complement datapath with arithmetic right shifts computes exactly the integer
result, for every register content. -/
def Obligations.SixtyFourBitsAreEnough : Prop :=
  ∀ (rawT rawP : Sample) (k : Consts),
    (temperature64 (accInOf rawT rawP k)).toInt = (compensate (compInOf rawT rawP k)).1 ∧
    (pressure64 (accInOf rawT rawP k)).toInt = (compensate (compInOf rawT rawP k)).2

/-- COMP (43_comp.md section 3): the word; the reading, its flag and the used-up samples on success; E_NOCAL tested
first; E_NOSAMPLE. The model's choice: the sample registers, which then hold no value, take free values (log 6). No
other register changes. -/
def Obligations.CompOutcomes : Prop :=
  encode .comp = 0x60000000#32 ∧
  (∀ s : State, s.busy = false → s.calValid = true → s.rawTValid = true → s.rawPValid = true →
    exec .comp s = .next { s with
      temp := BitVec.ofInt 32 (compensate (compInOf s.rawT s.rawP s.calib)).1
      press := BitVec.ofInt 32 (compensate (compInOf s.rawT s.rawP s.calib)).2
      outValid := true
      rawT := Config.noSample s.noValues
      rawP := Config.noSample (s.noValues + 1)
      rawTValid := false
      rawPValid := false
      noValues := s.noValues + 2
      err := .ok }) ∧
  (∀ s : State, s.busy = false → s.calValid = false → exec .comp s = .next { s with err := .eNoCal }) ∧
  (∀ s : State, s.busy = false → s.calValid = true → (s.rawTValid = false ∨ s.rawPValid = false) →
    exec .comp s = .next { s with err := .eNoSample })

/-- COMP's frame, in every outcome and every state (43_comp.md section 3): no constant, setting, timer or bus event;
on an error the reading, the samples and all flags stay. -/
def Obligations.CompFrame : Prop :=
  ∀ s t : State, exec .comp s = .next t →
    t.calib = s.calib ∧ t.calValid = s.calValid ∧ t.prom = s.prom ∧ t.crcReg = s.crcReg ∧ t.osrP = s.osrP ∧
    t.osrT = s.osrT ∧ t.timer = s.timer ∧ t.trace = s.trace ∧ t.words = s.words ∧ t.writes = s.writes ∧
    t.blocks = s.blocks ∧ t.sleeps = s.sleeps ∧ t.inputs = s.inputs ∧ t.replies = s.replies ∧
    (t.err ≠ .ok → t.temp = s.temp ∧ t.press = s.press ∧ t.outValid = s.outValid ∧ t.rawT = s.rawT ∧
      t.rawP = s.rawP ∧ t.rawTValid = s.rawTValid ∧ t.rawPValid = s.rawPValid)

/-- The registers hold the exact result after a successful COMP: no wrap-around (10_state.md section 5). -/
def Obligations.ReadingIsExact : Prop :=
  ∀ s : State, s.busy = false → s.calValid = true → s.rawTValid = true → s.rawPValid = true →
    ∃ t, exec .comp s = .next t ∧
      t.temp.toInt = (compensate (compInOf s.rawT s.rawP s.calib)).1 ∧
      t.press.toInt = (compensate (compInOf s.rawT s.rawP s.calib)).2

/-- 43_comp.md R100 for the command: two COMP that start with equal samples and constants write equal readings,
whatever else differs between the states (settings, trace, earlier results, inputs). -/
def Obligations.CompIsPure : Prop :=
  ∀ s s' t t' : State, s.busy = false → s'.busy = false → s.rawT = s'.rawT → s.rawP = s'.rawP → s.calib = s'.calib →
    exec .comp s = .next t → exec .comp s' = .next t' → t.err = .ok → t'.err = .ok →
    t.temp = t'.temp ∧ t.press = t'.press

/-! ### Errors -/

/-- Errors are precise (60_exceptions.md section 3): a command that ends with an error leaves the constants, CAL_VALID,
the settings, the reading and OUT_VALID as they were, and a failed conversion leaves its sample invalid. -/
def Obligations.ErrorsArePrecise : Prop :=
  ∀ (i : Instr) (s t : State), s.busy = false → exec i s = .next t → t.err ≠ .ok →
    t.calib = s.calib ∧ t.calValid = s.calValid ∧ t.osrP = s.osrP ∧ t.osrT = s.osrT ∧ t.temp = s.temp ∧
    t.press = s.press ∧ t.outValid = s.outValid ∧ t.busy = false ∧
    (i = .convP → t.rawPValid = false) ∧ (i = .convT → t.rawTValid = false)

/-- Which command can end with which code (60_exceptions.md section 1, the table the spec derives). -/
def Obligations.ResultCodesPerCommand : Prop :=
  ∀ (i : Instr) (s t : State), s.busy = false → exec i s = .next t →
    (i = .calLoad → t.err = .ok ∨ t.err = .eIntegrity ∨ t.err = .eIo ∨ t.err = .eState) ∧
    ((∃ rate, i = .osrSetp rate ∨ i = .osrSett rate) → t.err = .ok ∨ t.err = .eRate) ∧
    (i = .convP ∨ i = .convT → t.err = .ok ∨ t.err = .eIo) ∧
    (i = .comp → t.err = .ok ∨ t.err = .eNoCal ∨ t.err = .eNoSample)

/-! ### Bus events -/

/-- The total order of bus events (20_memory.md section 6): a step only appends to the trace, and a reset, a host read
and the commands OSR.SETP, OSR.SETT and COMP append nothing. -/
def Obligations.TraceOnlyGrows : Prop :=
  (∀ s t : State, step s = .next t → ∃ events, t.trace = s.trace ++ events) ∧
  (∀ (s t : State), s.inputs.head? = some .reset ∨ (∃ a, s.inputs.head? = some (.read a)) → step s = .next t →
    t.trace = s.trace) ∧
  (∀ (i : Instr) (s t : State), i = .comp ∨ (∃ rate, i = .osrSetp rate ∨ i = .osrSett rate) → exec i s = .next t →
    t.trace = s.trace)

/-- The invariant holds after reset. -/
def Obligations.InvariantHoldsAtReset : Prop := Inv State.reset

/-- Every step keeps the invariant (20_memory.md R50, 42_conv.md R89, 10_state.md R15, R20, R21): every block read is
directly preceded by a long enough sleep of the row whose command byte the write before it wrote; valid constants are
those of an image that was read in full and passed the check; a valid sample is what a complete conversion of its
channel returned. The model's choices in it: the wait's whole microseconds (log 3), TIMER (log 15), and that a sample
counts as valid while its channel's conversion runs as it did before (log 8). -/
def Obligations.StepKeepsTheInvariant : Prop := ∀ s t : State, Inv s → step s = .next t → Inv t

/-- A valid reading is within its bounds after reset (there is none). -/
def Obligations.ReadingInRangeAtReset : Prop := ReadingInRange State.reset

/-- Every step keeps a valid reading within the bounds of 10_state.md section 5. -/
def Obligations.StepKeepsTheReadingInRange : Prop :=
  ∀ s t : State, ReadingInRange s → step s = .next t → ReadingInRange t

/-! ### Host registers and status -/

/-- The fields of STATUS, bit by bit (10_state.md section 6); ERR's codes are those of 60_exceptions.md section 1. The
model's choice: while CONV.x runs, bits 2 and 3 show the sample flag from before it (log 8, 30_encoding.md R56 over
10_state.md R21). -/
def Obligations.StatusFields : Prop :=
  ∀ s : State, s.statusWord.getLsbD 0 = s.busy ∧ s.statusWord.getLsbD 1 = s.calValid ∧
    s.statusWord.getLsbD 2 = s.shownRawValid .pressure ∧ s.statusWord.getLsbD 3 = s.shownRawValid .temperature ∧
    s.statusWord.getLsbD 4 = s.outValid ∧ s.statusWord.toNat / 32 % 8 = 0 ∧
    s.statusWord.toNat / 256 % 8 = s.err.code.toNat ∧ s.statusWord.toNat / 2048 = 0

/-- The result codes of 60_exceptions.md section 1 in numbers. -/
def Obligations.ResultCodeNumbers : Prop :=
  ResultCode.ok.code = 0#3 ∧ ResultCode.eIntegrity.code = 1#3 ∧ ResultCode.eRate.code = 2#3 ∧
  ResultCode.eIo.code = 3#3 ∧ ResultCode.eIllegal.code = 4#3 ∧ ResultCode.eState.code = 5#3 ∧
  ResultCode.eNoCal.code = 6#3 ∧ ResultCode.eNoSample.code = 7#3

/-- The register map (30_encoding.md section 3): what a host read of each address returns where the register holds a
value; a register that holds none returns a word the statement leaves open, and the read completes all the same. The
model's choice: while CONV.x runs, STATUS and RAWx are read with the sample flag from before it (log 8). -/
def Obligations.HostRegisterMap : Prop :=
  ∀ (s : State) (a : HostAddr) (rest : List HostInput), s.inputs = .read a :: rest →
    ∃ (t : State) (v : Word), step s = .next t ∧ t.replies = s.replies ++ [⟨a, v⟩] ∧
      (a = 0x0 → v = 0) ∧ (a = 0x1 → v = s.statusWord) ∧
      (s.calValid = true → (a = 0x2 → v.toNat = s.calib.c1.toNat) ∧ (a = 0x3 → v.toNat = s.calib.c2.toNat) ∧
        (a = 0x4 → v.toNat = s.calib.c3.toNat) ∧ (a = 0x5 → v.toNat = s.calib.c4.toNat) ∧
        (a = 0x6 → v.toNat = s.calib.c5.toNat) ∧ (a = 0x7 → v.toNat = s.calib.c6.toNat)) ∧
      (a = 0x8 → v.toNat = 2 ^ (s.osrP.val + 8)) ∧ (a = 0x9 → v.toNat = 2 ^ (s.osrT.val + 8)) ∧
      (s.shownRawValid .pressure = true → a = 0xA → v.toNat = s.rawP.toNat) ∧
      (s.shownRawValid .temperature = true → a = 0xB → v.toNat = s.rawT.toNat) ∧
      (s.outValid = true → (a = 0xC → v = s.temp) ∧ (a = 0xD → v = s.press)) ∧
      (a = 0xE ∨ a = 0xF → v = 0)

/-- A host read has no side effect on the engine (20_memory.md section 5): only the model's own log of replies and
count of unspecified words change. -/
def Obligations.HostReadHasNoSideEffect : Prop :=
  ∀ (s : State) (a : HostAddr) (rest : List HostInput), s.inputs = .read a :: rest →
    ∃ replies draws, step s = .next { s with inputs := rest, replies := replies, readDraws := draws }

/-- While a command runs, every host register reads as before it, but for the BUSY bit of STATUS (30_encoding.md
section 3, decision D28). That this holds of the flag and register of CONV.x's own channel, although 10_state.md R21
clears the flag at the start, is the model's reading (log 8). -/
def Obligations.BusyReadsShowTheStateBefore : Prop :=
  ∀ (s : State) (i : Instr) (n : Nat), s.busy = false → (ticks n (startInstr i s)).busy = true →
    (∀ a : HostAddr, a ≠ 0x1 → hostValue a (ticks n (startInstr i s)) = hostValue a s) ∧
    hostValue 0x1 (ticks n (startInstr i s)) = some (s.statusWord ||| 1#32)

/-- No host register shows the PROM buffer, the CRC register or the timer (41_cal.md section 3, decision D26;
10_state.md section 6). -/
def Obligations.InternalRegistersAreInvisible : Prop :=
  ∀ (s : State) (a : HostAddr) (image : PromImage) (crc : Half) (us : Nat),
    hostValue a { s with prom := image, crcReg := crc, timer := us } = hostValue a s

/-! ### Reset -/

/-- The reset values of 10_state.md section 8 that the spec states, and STATUS reading 0. The values of the registers
that hold no value are the model's (log 4) and are not part of this statement. -/
def Obligations.ResetValues : Prop :=
  State.reset.calValid = false ∧ State.reset.osrP = 4 ∧ State.reset.osrT = 4 ∧ State.reset.rawPValid = false ∧
  State.reset.rawTValid = false ∧ State.reset.outValid = false ∧ State.reset.err = .ok ∧ State.reset.seq = .idle ∧
  State.reset.statusWord = 0

/-- The reset input at any moment, also inside a command (70_reset_and_hazards.md section 1): the stated reset values,
no bus event, nothing taken from the bus, and the engine is ready for any command. What the reset leaves of the model's
own fields is the model's choice (log 16). -/
def Obligations.ResetAbandonsTheCommand : Prop :=
  ∀ (s : State) (rest : List HostInput), s.inputs = .reset :: rest →
    ∃ t, step s = .next t ∧ t.calValid = false ∧ t.osrP = 4 ∧ t.osrT = 4 ∧ t.rawPValid = false ∧ t.rawTValid = false ∧
      t.outValid = false ∧ t.err = .ok ∧ t.busy = false ∧ t.trace = s.trace ∧ t.words = s.words ∧
      t.writes = s.writes ∧ t.blocks = s.blocks ∧ t.sleeps = s.sleeps ∧ t.inputs = rest ∧ t.replies = s.replies

/-! ### The sampling cycle -/

/-- The pseudo-command CYCLE (30_encoding.md section 5): from a calibrated engine, with both conversions answered, its
expansion ends with the reading of the two samples; with the temperature channel first and the same answer for each
channel the reading is the same. That CYCLE is `runCommands` of a list is the model's form of it (log 22). -/
def Obligations.CycleProducesTheReading : Prop :=
  ∀ (s s' : State) (p q : Block), s.busy = false → s.calValid = true → s.nextWrite = .ok () →
    s.writes.nth Config.freeWrite 1 = .ok () → s.nextBlock = .ok p → s.blocks.nth Config.freeBlock 1 = .ok q →
    s'.busy = false → s'.calValid = true → s'.calib = s.calib → s'.nextWrite = .ok () →
    s'.writes.nth Config.freeWrite 1 = .ok () → s'.nextBlock = .ok q → s'.blocks.nth Config.freeBlock 1 = .ok p →
    ∃ t t', runCommands cycleExpansion s = .next t ∧ runCommands cycleExpansionTempFirst s' = .next t' ∧
      t.err = .ok ∧ t'.err = .ok ∧ t.outValid = true ∧ t.rawPValid = false ∧ t.rawTValid = false ∧
      t.temp = BitVec.ofInt 32 (compensate (compInOf (assembleSample q) (assembleSample p) s.calib)).1 ∧
      t.press = BitVec.ofInt 32 (compensate (compInOf (assembleSample q) (assembleSample p) s.calib)).2 ∧
      t'.temp = t.temp ∧ t'.press = t.press

/-- `runCommands`, by which the host runs CYCLE's expansion, ends at a command that finishes with an error
(30_encoding.md section 5, which says it of CYCLE only; that `runCommands` takes any list is the model's, log 22). -/
def Obligations.CommandsAreAbandonedAtAnError : Prop :=
  ∀ (i : Instr) (rest : List Instr) (s t : State), exec i s = .next t → t.err ≠ .ok →
    runCommands (i :: rest) s = .next t
end

