-- ==== Sys2Proof/Laws/State.lean ====
section
/-! SUPPORT. What each named update of State does to each field, so that no proof unfolds a record update. -/

namespace Sys2Proof.Machine

variable (s : State)

/-! ### busReadWord -/

@[simp] theorem busReadWord_calib (off : Byte) : (busReadWord off s).calib = s.calib := rfl
@[simp] theorem busReadWord_calValid (off : Byte) : (busReadWord off s).calValid = s.calValid := rfl
@[simp] theorem busReadWord_prom (off : Byte) : (busReadWord off s).prom = s.prom := rfl
@[simp] theorem busReadWord_crcReg (off : Byte) : (busReadWord off s).crcReg = s.crcReg := rfl
@[simp] theorem busReadWord_osrP (off : Byte) : (busReadWord off s).osrP = s.osrP := rfl
@[simp] theorem busReadWord_osrT (off : Byte) : (busReadWord off s).osrT = s.osrT := rfl
@[simp] theorem busReadWord_rawP (off : Byte) : (busReadWord off s).rawP = s.rawP := rfl
@[simp] theorem busReadWord_rawT (off : Byte) : (busReadWord off s).rawT = s.rawT := rfl
@[simp] theorem busReadWord_rawPValid (off : Byte) : (busReadWord off s).rawPValid = s.rawPValid := rfl
@[simp] theorem busReadWord_rawTValid (off : Byte) : (busReadWord off s).rawTValid = s.rawTValid := rfl
@[simp] theorem busReadWord_temp (off : Byte) : (busReadWord off s).temp = s.temp := rfl
@[simp] theorem busReadWord_press (off : Byte) : (busReadWord off s).press = s.press := rfl
@[simp] theorem busReadWord_outValid (off : Byte) : (busReadWord off s).outValid = s.outValid := rfl
@[simp] theorem busReadWord_err (off : Byte) : (busReadWord off s).err = s.err := rfl
@[simp] theorem busReadWord_seq (off : Byte) : (busReadWord off s).seq = s.seq := rfl
@[simp] theorem busReadWord_timer (off : Byte) : (busReadWord off s).timer = s.timer := rfl
@[simp] theorem busReadWord_heldValid (off : Byte) : (busReadWord off s).heldValid = s.heldValid := rfl
@[simp] theorem busReadWord_inputs (off : Byte) : (busReadWord off s).inputs = s.inputs := rfl
@[simp] theorem busReadWord_replies (off : Byte) : (busReadWord off s).replies = s.replies := rfl
@[simp] theorem busReadWord_trace (off : Byte) : (busReadWord off s).trace = s.trace ++ [.wordRead off s.nextWord] := rfl
@[simp] theorem busReadWord_words (off : Byte) : (busReadWord off s).words = s.words.advance := rfl
@[simp] theorem busReadWord_writes (off : Byte) : (busReadWord off s).writes = s.writes := rfl
@[simp] theorem busReadWord_blocks (off : Byte) : (busReadWord off s).blocks = s.blocks := rfl
@[simp] theorem busReadWord_sleeps (off : Byte) : (busReadWord off s).sleeps = s.sleeps := rfl
@[simp] theorem busReadWord_noValues (off : Byte) : (busReadWord off s).noValues = s.noValues := rfl
@[simp] theorem busReadWord_readDraws (off : Byte) : (busReadWord off s).readDraws = s.readDraws := rfl

/-! ### busWriteCommand -/

@[simp] theorem busWriteCommand_calib (v : Byte) : (busWriteCommand v s).calib = s.calib := rfl
@[simp] theorem busWriteCommand_calValid (v : Byte) : (busWriteCommand v s).calValid = s.calValid := rfl
@[simp] theorem busWriteCommand_prom (v : Byte) : (busWriteCommand v s).prom = s.prom := rfl
@[simp] theorem busWriteCommand_crcReg (v : Byte) : (busWriteCommand v s).crcReg = s.crcReg := rfl
@[simp] theorem busWriteCommand_osrP (v : Byte) : (busWriteCommand v s).osrP = s.osrP := rfl
@[simp] theorem busWriteCommand_osrT (v : Byte) : (busWriteCommand v s).osrT = s.osrT := rfl
@[simp] theorem busWriteCommand_rawP (v : Byte) : (busWriteCommand v s).rawP = s.rawP := rfl
@[simp] theorem busWriteCommand_rawT (v : Byte) : (busWriteCommand v s).rawT = s.rawT := rfl
@[simp] theorem busWriteCommand_rawPValid (v : Byte) : (busWriteCommand v s).rawPValid = s.rawPValid := rfl
@[simp] theorem busWriteCommand_rawTValid (v : Byte) : (busWriteCommand v s).rawTValid = s.rawTValid := rfl
@[simp] theorem busWriteCommand_temp (v : Byte) : (busWriteCommand v s).temp = s.temp := rfl
@[simp] theorem busWriteCommand_press (v : Byte) : (busWriteCommand v s).press = s.press := rfl
@[simp] theorem busWriteCommand_outValid (v : Byte) : (busWriteCommand v s).outValid = s.outValid := rfl
@[simp] theorem busWriteCommand_err (v : Byte) : (busWriteCommand v s).err = s.err := rfl
@[simp] theorem busWriteCommand_seq (v : Byte) : (busWriteCommand v s).seq = s.seq := rfl
@[simp] theorem busWriteCommand_timer (v : Byte) : (busWriteCommand v s).timer = s.timer := rfl
@[simp] theorem busWriteCommand_heldValid (v : Byte) : (busWriteCommand v s).heldValid = s.heldValid := rfl
@[simp] theorem busWriteCommand_inputs (v : Byte) : (busWriteCommand v s).inputs = s.inputs := rfl
@[simp] theorem busWriteCommand_replies (v : Byte) : (busWriteCommand v s).replies = s.replies := rfl
@[simp] theorem busWriteCommand_trace (v : Byte) : (busWriteCommand v s).trace = s.trace ++ [.commandWrite v s.nextWrite] := rfl
@[simp] theorem busWriteCommand_words (v : Byte) : (busWriteCommand v s).words = s.words := rfl
@[simp] theorem busWriteCommand_writes (v : Byte) : (busWriteCommand v s).writes = s.writes.advance := rfl
@[simp] theorem busWriteCommand_blocks (v : Byte) : (busWriteCommand v s).blocks = s.blocks := rfl
@[simp] theorem busWriteCommand_sleeps (v : Byte) : (busWriteCommand v s).sleeps = s.sleeps := rfl
@[simp] theorem busWriteCommand_noValues (v : Byte) : (busWriteCommand v s).noValues = s.noValues := rfl
@[simp] theorem busWriteCommand_readDraws (v : Byte) : (busWriteCommand v s).readDraws = s.readDraws := rfl

/-! ### busReadBlock -/

@[simp] theorem busReadBlock_calib (reg : Byte) : (busReadBlock reg s).calib = s.calib := rfl
@[simp] theorem busReadBlock_calValid (reg : Byte) : (busReadBlock reg s).calValid = s.calValid := rfl
@[simp] theorem busReadBlock_prom (reg : Byte) : (busReadBlock reg s).prom = s.prom := rfl
@[simp] theorem busReadBlock_crcReg (reg : Byte) : (busReadBlock reg s).crcReg = s.crcReg := rfl
@[simp] theorem busReadBlock_osrP (reg : Byte) : (busReadBlock reg s).osrP = s.osrP := rfl
@[simp] theorem busReadBlock_osrT (reg : Byte) : (busReadBlock reg s).osrT = s.osrT := rfl
@[simp] theorem busReadBlock_rawP (reg : Byte) : (busReadBlock reg s).rawP = s.rawP := rfl
@[simp] theorem busReadBlock_rawT (reg : Byte) : (busReadBlock reg s).rawT = s.rawT := rfl
@[simp] theorem busReadBlock_rawPValid (reg : Byte) : (busReadBlock reg s).rawPValid = s.rawPValid := rfl
@[simp] theorem busReadBlock_rawTValid (reg : Byte) : (busReadBlock reg s).rawTValid = s.rawTValid := rfl
@[simp] theorem busReadBlock_temp (reg : Byte) : (busReadBlock reg s).temp = s.temp := rfl
@[simp] theorem busReadBlock_press (reg : Byte) : (busReadBlock reg s).press = s.press := rfl
@[simp] theorem busReadBlock_outValid (reg : Byte) : (busReadBlock reg s).outValid = s.outValid := rfl
@[simp] theorem busReadBlock_err (reg : Byte) : (busReadBlock reg s).err = s.err := rfl
@[simp] theorem busReadBlock_seq (reg : Byte) : (busReadBlock reg s).seq = s.seq := rfl
@[simp] theorem busReadBlock_timer (reg : Byte) : (busReadBlock reg s).timer = s.timer := rfl
@[simp] theorem busReadBlock_heldValid (reg : Byte) : (busReadBlock reg s).heldValid = s.heldValid := rfl
@[simp] theorem busReadBlock_inputs (reg : Byte) : (busReadBlock reg s).inputs = s.inputs := rfl
@[simp] theorem busReadBlock_replies (reg : Byte) : (busReadBlock reg s).replies = s.replies := rfl
@[simp] theorem busReadBlock_trace (reg : Byte) : (busReadBlock reg s).trace = s.trace ++ [.blockRead reg s.nextBlock] := rfl
@[simp] theorem busReadBlock_words (reg : Byte) : (busReadBlock reg s).words = s.words := rfl
@[simp] theorem busReadBlock_writes (reg : Byte) : (busReadBlock reg s).writes = s.writes := rfl
@[simp] theorem busReadBlock_blocks (reg : Byte) : (busReadBlock reg s).blocks = s.blocks.advance := rfl
@[simp] theorem busReadBlock_sleeps (reg : Byte) : (busReadBlock reg s).sleeps = s.sleeps := rfl
@[simp] theorem busReadBlock_noValues (reg : Byte) : (busReadBlock reg s).noValues = s.noValues := rfl
@[simp] theorem busReadBlock_readDraws (reg : Byte) : (busReadBlock reg s).readDraws = s.readDraws := rfl

/-! ### busSleep -/

@[simp] theorem busSleep_calib (d : Nat) : (busSleep d s).calib = s.calib := rfl
@[simp] theorem busSleep_calValid (d : Nat) : (busSleep d s).calValid = s.calValid := rfl
@[simp] theorem busSleep_prom (d : Nat) : (busSleep d s).prom = s.prom := rfl
@[simp] theorem busSleep_crcReg (d : Nat) : (busSleep d s).crcReg = s.crcReg := rfl
@[simp] theorem busSleep_osrP (d : Nat) : (busSleep d s).osrP = s.osrP := rfl
@[simp] theorem busSleep_osrT (d : Nat) : (busSleep d s).osrT = s.osrT := rfl
@[simp] theorem busSleep_rawP (d : Nat) : (busSleep d s).rawP = s.rawP := rfl
@[simp] theorem busSleep_rawT (d : Nat) : (busSleep d s).rawT = s.rawT := rfl
@[simp] theorem busSleep_rawPValid (d : Nat) : (busSleep d s).rawPValid = s.rawPValid := rfl
@[simp] theorem busSleep_rawTValid (d : Nat) : (busSleep d s).rawTValid = s.rawTValid := rfl
@[simp] theorem busSleep_temp (d : Nat) : (busSleep d s).temp = s.temp := rfl
@[simp] theorem busSleep_press (d : Nat) : (busSleep d s).press = s.press := rfl
@[simp] theorem busSleep_outValid (d : Nat) : (busSleep d s).outValid = s.outValid := rfl
@[simp] theorem busSleep_err (d : Nat) : (busSleep d s).err = s.err := rfl
@[simp] theorem busSleep_seq (d : Nat) : (busSleep d s).seq = s.seq := rfl
@[simp] theorem busSleep_timer (d : Nat) : (busSleep d s).timer = settleTime d s.nextExcess := rfl
@[simp] theorem busSleep_heldValid (d : Nat) : (busSleep d s).heldValid = s.heldValid := rfl
@[simp] theorem busSleep_inputs (d : Nat) : (busSleep d s).inputs = s.inputs := rfl
@[simp] theorem busSleep_replies (d : Nat) : (busSleep d s).replies = s.replies := rfl
@[simp] theorem busSleep_trace (d : Nat) : (busSleep d s).trace = s.trace ++ [.sleep d (settleTime d s.nextExcess)] := rfl
@[simp] theorem busSleep_words (d : Nat) : (busSleep d s).words = s.words := rfl
@[simp] theorem busSleep_writes (d : Nat) : (busSleep d s).writes = s.writes := rfl
@[simp] theorem busSleep_blocks (d : Nat) : (busSleep d s).blocks = s.blocks := rfl
@[simp] theorem busSleep_sleeps (d : Nat) : (busSleep d s).sleeps = s.sleeps.advance := rfl
@[simp] theorem busSleep_noValues (d : Nat) : (busSleep d s).noValues = s.noValues := rfl
@[simp] theorem busSleep_readDraws (d : Nat) : (busSleep d s).readDraws = s.readDraws := rfl

/-! ### setOsr -/

@[simp] theorem setOsr_calib (idx : Fin 5) (ch : Channel) : (setOsr ch idx s).calib = s.calib := by cases ch <;> rfl
@[simp] theorem setOsr_calValid (idx : Fin 5) (ch : Channel) : (setOsr ch idx s).calValid = s.calValid := by cases ch <;> rfl
@[simp] theorem setOsr_prom (idx : Fin 5) (ch : Channel) : (setOsr ch idx s).prom = s.prom := by cases ch <;> rfl
@[simp] theorem setOsr_crcReg (idx : Fin 5) (ch : Channel) : (setOsr ch idx s).crcReg = s.crcReg := by cases ch <;> rfl
@[simp] theorem setOsr_pressure_osrP (idx : Fin 5) : (setOsr .pressure idx s).osrP = idx := rfl
@[simp] theorem setOsr_temperature_osrP (idx : Fin 5) : (setOsr .temperature idx s).osrP = s.osrP := rfl
@[simp] theorem setOsr_pressure_osrT (idx : Fin 5) : (setOsr .pressure idx s).osrT = s.osrT := rfl
@[simp] theorem setOsr_temperature_osrT (idx : Fin 5) : (setOsr .temperature idx s).osrT = idx := rfl
@[simp] theorem setOsr_rawP (idx : Fin 5) (ch : Channel) : (setOsr ch idx s).rawP = s.rawP := by cases ch <;> rfl
@[simp] theorem setOsr_rawT (idx : Fin 5) (ch : Channel) : (setOsr ch idx s).rawT = s.rawT := by cases ch <;> rfl
@[simp] theorem setOsr_rawPValid (idx : Fin 5) (ch : Channel) : (setOsr ch idx s).rawPValid = s.rawPValid := by cases ch <;> rfl
@[simp] theorem setOsr_rawTValid (idx : Fin 5) (ch : Channel) : (setOsr ch idx s).rawTValid = s.rawTValid := by cases ch <;> rfl
@[simp] theorem setOsr_temp (idx : Fin 5) (ch : Channel) : (setOsr ch idx s).temp = s.temp := by cases ch <;> rfl
@[simp] theorem setOsr_press (idx : Fin 5) (ch : Channel) : (setOsr ch idx s).press = s.press := by cases ch <;> rfl
@[simp] theorem setOsr_outValid (idx : Fin 5) (ch : Channel) : (setOsr ch idx s).outValid = s.outValid := by cases ch <;> rfl
@[simp] theorem setOsr_err (idx : Fin 5) (ch : Channel) : (setOsr ch idx s).err = s.err := by cases ch <;> rfl
@[simp] theorem setOsr_seq (idx : Fin 5) (ch : Channel) : (setOsr ch idx s).seq = s.seq := by cases ch <;> rfl
@[simp] theorem setOsr_timer (idx : Fin 5) (ch : Channel) : (setOsr ch idx s).timer = s.timer := by cases ch <;> rfl
@[simp] theorem setOsr_heldValid (idx : Fin 5) (ch : Channel) : (setOsr ch idx s).heldValid = s.heldValid := by cases ch <;> rfl
@[simp] theorem setOsr_inputs (idx : Fin 5) (ch : Channel) : (setOsr ch idx s).inputs = s.inputs := by cases ch <;> rfl
@[simp] theorem setOsr_replies (idx : Fin 5) (ch : Channel) : (setOsr ch idx s).replies = s.replies := by cases ch <;> rfl
@[simp] theorem setOsr_trace (idx : Fin 5) (ch : Channel) : (setOsr ch idx s).trace = s.trace := by cases ch <;> rfl
@[simp] theorem setOsr_words (idx : Fin 5) (ch : Channel) : (setOsr ch idx s).words = s.words := by cases ch <;> rfl
@[simp] theorem setOsr_writes (idx : Fin 5) (ch : Channel) : (setOsr ch idx s).writes = s.writes := by cases ch <;> rfl
@[simp] theorem setOsr_blocks (idx : Fin 5) (ch : Channel) : (setOsr ch idx s).blocks = s.blocks := by cases ch <;> rfl
@[simp] theorem setOsr_sleeps (idx : Fin 5) (ch : Channel) : (setOsr ch idx s).sleeps = s.sleeps := by cases ch <;> rfl
@[simp] theorem setOsr_noValues (idx : Fin 5) (ch : Channel) : (setOsr ch idx s).noValues = s.noValues := by cases ch <;> rfl
@[simp] theorem setOsr_readDraws (idx : Fin 5) (ch : Channel) : (setOsr ch idx s).readDraws = s.readDraws := by cases ch <;> rfl

/-! ### holdSample -/

@[simp] theorem holdSample_calib (ch : Channel) : (holdSample ch s).calib = s.calib := by cases ch <;> rfl
@[simp] theorem holdSample_calValid (ch : Channel) : (holdSample ch s).calValid = s.calValid := by cases ch <;> rfl
@[simp] theorem holdSample_prom (ch : Channel) : (holdSample ch s).prom = s.prom := by cases ch <;> rfl
@[simp] theorem holdSample_crcReg (ch : Channel) : (holdSample ch s).crcReg = s.crcReg := by cases ch <;> rfl
@[simp] theorem holdSample_osrP (ch : Channel) : (holdSample ch s).osrP = s.osrP := by cases ch <;> rfl
@[simp] theorem holdSample_osrT (ch : Channel) : (holdSample ch s).osrT = s.osrT := by cases ch <;> rfl
@[simp] theorem holdSample_rawP (ch : Channel) : (holdSample ch s).rawP = s.rawP := by cases ch <;> rfl
@[simp] theorem holdSample_rawT (ch : Channel) : (holdSample ch s).rawT = s.rawT := by cases ch <;> rfl
@[simp] theorem holdSample_pressure_rawPValid : (holdSample .pressure s).rawPValid = false := rfl
@[simp] theorem holdSample_temperature_rawPValid : (holdSample .temperature s).rawPValid = s.rawPValid := rfl
@[simp] theorem holdSample_pressure_rawTValid : (holdSample .pressure s).rawTValid = s.rawTValid := rfl
@[simp] theorem holdSample_temperature_rawTValid : (holdSample .temperature s).rawTValid = false := rfl
@[simp] theorem holdSample_temp (ch : Channel) : (holdSample ch s).temp = s.temp := by cases ch <;> rfl
@[simp] theorem holdSample_press (ch : Channel) : (holdSample ch s).press = s.press := by cases ch <;> rfl
@[simp] theorem holdSample_outValid (ch : Channel) : (holdSample ch s).outValid = s.outValid := by cases ch <;> rfl
@[simp] theorem holdSample_err (ch : Channel) : (holdSample ch s).err = s.err := by cases ch <;> rfl
@[simp] theorem holdSample_seq (ch : Channel) : (holdSample ch s).seq = s.seq := by cases ch <;> rfl
@[simp] theorem holdSample_timer (ch : Channel) : (holdSample ch s).timer = s.timer := by cases ch <;> rfl
@[simp] theorem holdSample_pressure_heldValid : (holdSample .pressure s).heldValid = s.rawPValid := rfl
@[simp] theorem holdSample_temperature_heldValid : (holdSample .temperature s).heldValid = s.rawTValid := rfl
@[simp] theorem holdSample_inputs (ch : Channel) : (holdSample ch s).inputs = s.inputs := by cases ch <;> rfl
@[simp] theorem holdSample_replies (ch : Channel) : (holdSample ch s).replies = s.replies := by cases ch <;> rfl
@[simp] theorem holdSample_trace (ch : Channel) : (holdSample ch s).trace = s.trace := by cases ch <;> rfl
@[simp] theorem holdSample_words (ch : Channel) : (holdSample ch s).words = s.words := by cases ch <;> rfl
@[simp] theorem holdSample_writes (ch : Channel) : (holdSample ch s).writes = s.writes := by cases ch <;> rfl
@[simp] theorem holdSample_blocks (ch : Channel) : (holdSample ch s).blocks = s.blocks := by cases ch <;> rfl
@[simp] theorem holdSample_sleeps (ch : Channel) : (holdSample ch s).sleeps = s.sleeps := by cases ch <;> rfl
@[simp] theorem holdSample_noValues (ch : Channel) : (holdSample ch s).noValues = s.noValues := by cases ch <;> rfl
@[simp] theorem holdSample_readDraws (ch : Channel) : (holdSample ch s).readDraws = s.readDraws := by cases ch <;> rfl

/-! ### putSample -/

@[simp] theorem putSample_calib (v : Sample) (ch : Channel) : (putSample ch v s).calib = s.calib := by cases ch <;> rfl
@[simp] theorem putSample_calValid (v : Sample) (ch : Channel) : (putSample ch v s).calValid = s.calValid := by cases ch <;> rfl
@[simp] theorem putSample_prom (v : Sample) (ch : Channel) : (putSample ch v s).prom = s.prom := by cases ch <;> rfl
@[simp] theorem putSample_crcReg (v : Sample) (ch : Channel) : (putSample ch v s).crcReg = s.crcReg := by cases ch <;> rfl
@[simp] theorem putSample_osrP (v : Sample) (ch : Channel) : (putSample ch v s).osrP = s.osrP := by cases ch <;> rfl
@[simp] theorem putSample_osrT (v : Sample) (ch : Channel) : (putSample ch v s).osrT = s.osrT := by cases ch <;> rfl
@[simp] theorem putSample_pressure_rawP (v : Sample) : (putSample .pressure v s).rawP = v := rfl
@[simp] theorem putSample_temperature_rawP (v : Sample) : (putSample .temperature v s).rawP = s.rawP := rfl
@[simp] theorem putSample_pressure_rawT (v : Sample) : (putSample .pressure v s).rawT = s.rawT := rfl
@[simp] theorem putSample_temperature_rawT (v : Sample) : (putSample .temperature v s).rawT = v := rfl
@[simp] theorem putSample_pressure_rawPValid (v : Sample) : (putSample .pressure v s).rawPValid = true := rfl
@[simp] theorem putSample_temperature_rawPValid (v : Sample) : (putSample .temperature v s).rawPValid = s.rawPValid := rfl
@[simp] theorem putSample_pressure_rawTValid (v : Sample) : (putSample .pressure v s).rawTValid = s.rawTValid := rfl
@[simp] theorem putSample_temperature_rawTValid (v : Sample) : (putSample .temperature v s).rawTValid = true := rfl
@[simp] theorem putSample_temp (v : Sample) (ch : Channel) : (putSample ch v s).temp = s.temp := by cases ch <;> rfl
@[simp] theorem putSample_press (v : Sample) (ch : Channel) : (putSample ch v s).press = s.press := by cases ch <;> rfl
@[simp] theorem putSample_outValid (v : Sample) (ch : Channel) : (putSample ch v s).outValid = s.outValid := by cases ch <;> rfl
@[simp] theorem putSample_err (v : Sample) (ch : Channel) : (putSample ch v s).err = s.err := by cases ch <;> rfl
@[simp] theorem putSample_seq (v : Sample) (ch : Channel) : (putSample ch v s).seq = s.seq := by cases ch <;> rfl
@[simp] theorem putSample_timer (v : Sample) (ch : Channel) : (putSample ch v s).timer = s.timer := by cases ch <;> rfl
@[simp] theorem putSample_heldValid (v : Sample) (ch : Channel) : (putSample ch v s).heldValid = s.heldValid := by cases ch <;> rfl
@[simp] theorem putSample_inputs (v : Sample) (ch : Channel) : (putSample ch v s).inputs = s.inputs := by cases ch <;> rfl
@[simp] theorem putSample_replies (v : Sample) (ch : Channel) : (putSample ch v s).replies = s.replies := by cases ch <;> rfl
@[simp] theorem putSample_trace (v : Sample) (ch : Channel) : (putSample ch v s).trace = s.trace := by cases ch <;> rfl
@[simp] theorem putSample_words (v : Sample) (ch : Channel) : (putSample ch v s).words = s.words := by cases ch <;> rfl
@[simp] theorem putSample_writes (v : Sample) (ch : Channel) : (putSample ch v s).writes = s.writes := by cases ch <;> rfl
@[simp] theorem putSample_blocks (v : Sample) (ch : Channel) : (putSample ch v s).blocks = s.blocks := by cases ch <;> rfl
@[simp] theorem putSample_sleeps (v : Sample) (ch : Channel) : (putSample ch v s).sleeps = s.sleeps := by cases ch <;> rfl
@[simp] theorem putSample_noValues (v : Sample) (ch : Channel) : (putSample ch v s).noValues = s.noValues := by cases ch <;> rfl
@[simp] theorem putSample_readDraws (v : Sample) (ch : Channel) : (putSample ch v s).readDraws = s.readDraws := by cases ch <;> rfl

/-! ### dropSample -/

@[simp] theorem dropSample_calib (ch : Channel) : (dropSample ch s).calib = s.calib := by cases ch <;> rfl
@[simp] theorem dropSample_calValid (ch : Channel) : (dropSample ch s).calValid = s.calValid := by cases ch <;> rfl
@[simp] theorem dropSample_prom (ch : Channel) : (dropSample ch s).prom = s.prom := by cases ch <;> rfl
@[simp] theorem dropSample_crcReg (ch : Channel) : (dropSample ch s).crcReg = s.crcReg := by cases ch <;> rfl
@[simp] theorem dropSample_osrP (ch : Channel) : (dropSample ch s).osrP = s.osrP := by cases ch <;> rfl
@[simp] theorem dropSample_osrT (ch : Channel) : (dropSample ch s).osrT = s.osrT := by cases ch <;> rfl
@[simp] theorem dropSample_pressure_rawP : (dropSample .pressure s).rawP = Config.noSample s.noValues := rfl
@[simp] theorem dropSample_temperature_rawP : (dropSample .temperature s).rawP = s.rawP := rfl
@[simp] theorem dropSample_pressure_rawT : (dropSample .pressure s).rawT = s.rawT := rfl
@[simp] theorem dropSample_temperature_rawT : (dropSample .temperature s).rawT = Config.noSample s.noValues := rfl
@[simp] theorem dropSample_pressure_rawPValid : (dropSample .pressure s).rawPValid = false := rfl
@[simp] theorem dropSample_temperature_rawPValid : (dropSample .temperature s).rawPValid = s.rawPValid := rfl
@[simp] theorem dropSample_pressure_rawTValid : (dropSample .pressure s).rawTValid = s.rawTValid := rfl
@[simp] theorem dropSample_temperature_rawTValid : (dropSample .temperature s).rawTValid = false := rfl
@[simp] theorem dropSample_temp (ch : Channel) : (dropSample ch s).temp = s.temp := by cases ch <;> rfl
@[simp] theorem dropSample_press (ch : Channel) : (dropSample ch s).press = s.press := by cases ch <;> rfl
@[simp] theorem dropSample_outValid (ch : Channel) : (dropSample ch s).outValid = s.outValid := by cases ch <;> rfl
@[simp] theorem dropSample_err (ch : Channel) : (dropSample ch s).err = s.err := by cases ch <;> rfl
@[simp] theorem dropSample_seq (ch : Channel) : (dropSample ch s).seq = s.seq := by cases ch <;> rfl
@[simp] theorem dropSample_timer (ch : Channel) : (dropSample ch s).timer = s.timer := by cases ch <;> rfl
@[simp] theorem dropSample_heldValid (ch : Channel) : (dropSample ch s).heldValid = s.heldValid := by cases ch <;> rfl
@[simp] theorem dropSample_inputs (ch : Channel) : (dropSample ch s).inputs = s.inputs := by cases ch <;> rfl
@[simp] theorem dropSample_replies (ch : Channel) : (dropSample ch s).replies = s.replies := by cases ch <;> rfl
@[simp] theorem dropSample_trace (ch : Channel) : (dropSample ch s).trace = s.trace := by cases ch <;> rfl
@[simp] theorem dropSample_words (ch : Channel) : (dropSample ch s).words = s.words := by cases ch <;> rfl
@[simp] theorem dropSample_writes (ch : Channel) : (dropSample ch s).writes = s.writes := by cases ch <;> rfl
@[simp] theorem dropSample_blocks (ch : Channel) : (dropSample ch s).blocks = s.blocks := by cases ch <;> rfl
@[simp] theorem dropSample_sleeps (ch : Channel) : (dropSample ch s).sleeps = s.sleeps := by cases ch <;> rfl
@[simp] theorem dropSample_pressure_noValues : (dropSample .pressure s).noValues = s.noValues + 1 := rfl
@[simp] theorem dropSample_temperature_noValues : (dropSample .temperature s).noValues = s.noValues + 1 := rfl
@[simp] theorem dropSample_readDraws (ch : Channel) : (dropSample ch s).readDraws = s.readDraws := by cases ch <;> rfl

/-! ### wipeImage -/

@[simp] theorem wipeImage_calib : (wipeImage s).calib = s.calib := rfl
@[simp] theorem wipeImage_calValid : (wipeImage s).calValid = s.calValid := rfl
@[simp] theorem wipeImage_prom : (wipeImage s).prom = Config.noImage s.noValues := rfl
@[simp] theorem wipeImage_crcReg : (wipeImage s).crcReg = Config.noCrc s.noValues := rfl
@[simp] theorem wipeImage_osrP : (wipeImage s).osrP = s.osrP := rfl
@[simp] theorem wipeImage_osrT : (wipeImage s).osrT = s.osrT := rfl
@[simp] theorem wipeImage_rawP : (wipeImage s).rawP = s.rawP := rfl
@[simp] theorem wipeImage_rawT : (wipeImage s).rawT = s.rawT := rfl
@[simp] theorem wipeImage_rawPValid : (wipeImage s).rawPValid = s.rawPValid := rfl
@[simp] theorem wipeImage_rawTValid : (wipeImage s).rawTValid = s.rawTValid := rfl
@[simp] theorem wipeImage_temp : (wipeImage s).temp = s.temp := rfl
@[simp] theorem wipeImage_press : (wipeImage s).press = s.press := rfl
@[simp] theorem wipeImage_outValid : (wipeImage s).outValid = s.outValid := rfl
@[simp] theorem wipeImage_err : (wipeImage s).err = s.err := rfl
@[simp] theorem wipeImage_seq : (wipeImage s).seq = s.seq := rfl
@[simp] theorem wipeImage_timer : (wipeImage s).timer = s.timer := rfl
@[simp] theorem wipeImage_heldValid : (wipeImage s).heldValid = s.heldValid := rfl
@[simp] theorem wipeImage_inputs : (wipeImage s).inputs = s.inputs := rfl
@[simp] theorem wipeImage_replies : (wipeImage s).replies = s.replies := rfl
@[simp] theorem wipeImage_trace : (wipeImage s).trace = s.trace := rfl
@[simp] theorem wipeImage_words : (wipeImage s).words = s.words := rfl
@[simp] theorem wipeImage_writes : (wipeImage s).writes = s.writes := rfl
@[simp] theorem wipeImage_blocks : (wipeImage s).blocks = s.blocks := rfl
@[simp] theorem wipeImage_sleeps : (wipeImage s).sleeps = s.sleeps := rfl
@[simp] theorem wipeImage_noValues : (wipeImage s).noValues = s.noValues + 1 := rfl
@[simp] theorem wipeImage_readDraws : (wipeImage s).readDraws = s.readDraws := rfl

/-! ### endCommand -/

@[simp] theorem endCommand_calib (code : ResultCode) : (endCommand code s).calib = s.calib := rfl
@[simp] theorem endCommand_calValid (code : ResultCode) : (endCommand code s).calValid = s.calValid := rfl
@[simp] theorem endCommand_prom (code : ResultCode) : (endCommand code s).prom = s.prom := rfl
@[simp] theorem endCommand_crcReg (code : ResultCode) : (endCommand code s).crcReg = s.crcReg := rfl
@[simp] theorem endCommand_osrP (code : ResultCode) : (endCommand code s).osrP = s.osrP := rfl
@[simp] theorem endCommand_osrT (code : ResultCode) : (endCommand code s).osrT = s.osrT := rfl
@[simp] theorem endCommand_rawP (code : ResultCode) : (endCommand code s).rawP = s.rawP := rfl
@[simp] theorem endCommand_rawT (code : ResultCode) : (endCommand code s).rawT = s.rawT := rfl
@[simp] theorem endCommand_rawPValid (code : ResultCode) : (endCommand code s).rawPValid = s.rawPValid := rfl
@[simp] theorem endCommand_rawTValid (code : ResultCode) : (endCommand code s).rawTValid = s.rawTValid := rfl
@[simp] theorem endCommand_temp (code : ResultCode) : (endCommand code s).temp = s.temp := rfl
@[simp] theorem endCommand_press (code : ResultCode) : (endCommand code s).press = s.press := rfl
@[simp] theorem endCommand_outValid (code : ResultCode) : (endCommand code s).outValid = s.outValid := rfl
@[simp] theorem endCommand_err (code : ResultCode) : (endCommand code s).err = code := rfl
@[simp] theorem endCommand_seq (code : ResultCode) : (endCommand code s).seq = .idle := rfl
@[simp] theorem endCommand_timer (code : ResultCode) : (endCommand code s).timer = s.timer := rfl
@[simp] theorem endCommand_heldValid (code : ResultCode) : (endCommand code s).heldValid = s.heldValid := rfl
@[simp] theorem endCommand_inputs (code : ResultCode) : (endCommand code s).inputs = s.inputs := rfl
@[simp] theorem endCommand_replies (code : ResultCode) : (endCommand code s).replies = s.replies := rfl
@[simp] theorem endCommand_trace (code : ResultCode) : (endCommand code s).trace = s.trace := rfl
@[simp] theorem endCommand_words (code : ResultCode) : (endCommand code s).words = s.words := rfl
@[simp] theorem endCommand_writes (code : ResultCode) : (endCommand code s).writes = s.writes := rfl
@[simp] theorem endCommand_blocks (code : ResultCode) : (endCommand code s).blocks = s.blocks := rfl
@[simp] theorem endCommand_sleeps (code : ResultCode) : (endCommand code s).sleeps = s.sleeps := rfl
@[simp] theorem endCommand_noValues (code : ResultCode) : (endCommand code s).noValues = s.noValues := rfl
@[simp] theorem endCommand_readDraws (code : ResultCode) : (endCommand code s).readDraws = s.readDraws := rfl

/-! ### resetEngine -/

@[simp] theorem resetEngine_calib : (resetEngine s).calib = State.reset.calib := rfl
@[simp] theorem resetEngine_calValid : (resetEngine s).calValid = State.reset.calValid := rfl
@[simp] theorem resetEngine_prom : (resetEngine s).prom = State.reset.prom := rfl
@[simp] theorem resetEngine_crcReg : (resetEngine s).crcReg = State.reset.crcReg := rfl
@[simp] theorem resetEngine_osrP : (resetEngine s).osrP = State.reset.osrP := rfl
@[simp] theorem resetEngine_osrT : (resetEngine s).osrT = State.reset.osrT := rfl
@[simp] theorem resetEngine_rawP : (resetEngine s).rawP = State.reset.rawP := rfl
@[simp] theorem resetEngine_rawT : (resetEngine s).rawT = State.reset.rawT := rfl
@[simp] theorem resetEngine_rawPValid : (resetEngine s).rawPValid = State.reset.rawPValid := rfl
@[simp] theorem resetEngine_rawTValid : (resetEngine s).rawTValid = State.reset.rawTValid := rfl
@[simp] theorem resetEngine_temp : (resetEngine s).temp = State.reset.temp := rfl
@[simp] theorem resetEngine_press : (resetEngine s).press = State.reset.press := rfl
@[simp] theorem resetEngine_outValid : (resetEngine s).outValid = State.reset.outValid := rfl
@[simp] theorem resetEngine_err : (resetEngine s).err = State.reset.err := rfl
@[simp] theorem resetEngine_seq : (resetEngine s).seq = State.reset.seq := rfl
@[simp] theorem resetEngine_timer : (resetEngine s).timer = State.reset.timer := rfl
@[simp] theorem resetEngine_heldValid : (resetEngine s).heldValid = State.reset.heldValid := rfl
@[simp] theorem resetEngine_inputs : (resetEngine s).inputs = s.inputs := rfl
@[simp] theorem resetEngine_replies : (resetEngine s).replies = s.replies := rfl
@[simp] theorem resetEngine_trace : (resetEngine s).trace = s.trace := rfl
@[simp] theorem resetEngine_words : (resetEngine s).words = s.words := rfl
@[simp] theorem resetEngine_writes : (resetEngine s).writes = s.writes := rfl
@[simp] theorem resetEngine_blocks : (resetEngine s).blocks = s.blocks := rfl
@[simp] theorem resetEngine_sleeps : (resetEngine s).sleeps = s.sleeps := rfl
@[simp] theorem resetEngine_noValues : (resetEngine s).noValues = s.noValues := rfl
@[simp] theorem resetEngine_readDraws : (resetEngine s).readDraws = s.readDraws := rfl

/-! ### dropInput -/

@[simp] theorem dropInput_calib : (dropInput s).calib = s.calib := rfl
@[simp] theorem dropInput_calValid : (dropInput s).calValid = s.calValid := rfl
@[simp] theorem dropInput_prom : (dropInput s).prom = s.prom := rfl
@[simp] theorem dropInput_crcReg : (dropInput s).crcReg = s.crcReg := rfl
@[simp] theorem dropInput_osrP : (dropInput s).osrP = s.osrP := rfl
@[simp] theorem dropInput_osrT : (dropInput s).osrT = s.osrT := rfl
@[simp] theorem dropInput_rawP : (dropInput s).rawP = s.rawP := rfl
@[simp] theorem dropInput_rawT : (dropInput s).rawT = s.rawT := rfl
@[simp] theorem dropInput_rawPValid : (dropInput s).rawPValid = s.rawPValid := rfl
@[simp] theorem dropInput_rawTValid : (dropInput s).rawTValid = s.rawTValid := rfl
@[simp] theorem dropInput_temp : (dropInput s).temp = s.temp := rfl
@[simp] theorem dropInput_press : (dropInput s).press = s.press := rfl
@[simp] theorem dropInput_outValid : (dropInput s).outValid = s.outValid := rfl
@[simp] theorem dropInput_err : (dropInput s).err = s.err := rfl
@[simp] theorem dropInput_seq : (dropInput s).seq = s.seq := rfl
@[simp] theorem dropInput_timer : (dropInput s).timer = s.timer := rfl
@[simp] theorem dropInput_heldValid : (dropInput s).heldValid = s.heldValid := rfl
@[simp] theorem dropInput_inputs : (dropInput s).inputs = s.inputs.tail := rfl
@[simp] theorem dropInput_replies : (dropInput s).replies = s.replies := rfl
@[simp] theorem dropInput_trace : (dropInput s).trace = s.trace := rfl
@[simp] theorem dropInput_words : (dropInput s).words = s.words := rfl
@[simp] theorem dropInput_writes : (dropInput s).writes = s.writes := rfl
@[simp] theorem dropInput_blocks : (dropInput s).blocks = s.blocks := rfl
@[simp] theorem dropInput_sleeps : (dropInput s).sleeps = s.sleeps := rfl
@[simp] theorem dropInput_noValues : (dropInput s).noValues = s.noValues := rfl
@[simp] theorem dropInput_readDraws : (dropInput s).readDraws = s.readDraws := rfl

/-! ### presentWord -/

@[simp] theorem presentWord_calib (w : Word) : (presentWord w s).calib = s.calib := rfl
@[simp] theorem presentWord_calValid (w : Word) : (presentWord w s).calValid = s.calValid := rfl
@[simp] theorem presentWord_prom (w : Word) : (presentWord w s).prom = s.prom := rfl
@[simp] theorem presentWord_crcReg (w : Word) : (presentWord w s).crcReg = s.crcReg := rfl
@[simp] theorem presentWord_osrP (w : Word) : (presentWord w s).osrP = s.osrP := rfl
@[simp] theorem presentWord_osrT (w : Word) : (presentWord w s).osrT = s.osrT := rfl
@[simp] theorem presentWord_rawP (w : Word) : (presentWord w s).rawP = s.rawP := rfl
@[simp] theorem presentWord_rawT (w : Word) : (presentWord w s).rawT = s.rawT := rfl
@[simp] theorem presentWord_rawPValid (w : Word) : (presentWord w s).rawPValid = s.rawPValid := rfl
@[simp] theorem presentWord_rawTValid (w : Word) : (presentWord w s).rawTValid = s.rawTValid := rfl
@[simp] theorem presentWord_temp (w : Word) : (presentWord w s).temp = s.temp := rfl
@[simp] theorem presentWord_press (w : Word) : (presentWord w s).press = s.press := rfl
@[simp] theorem presentWord_outValid (w : Word) : (presentWord w s).outValid = s.outValid := rfl
@[simp] theorem presentWord_err (w : Word) : (presentWord w s).err = s.err := rfl
@[simp] theorem presentWord_seq (w : Word) : (presentWord w s).seq = .idle := rfl
@[simp] theorem presentWord_timer (w : Word) : (presentWord w s).timer = s.timer := rfl
@[simp] theorem presentWord_heldValid (w : Word) : (presentWord w s).heldValid = s.heldValid := rfl
@[simp] theorem presentWord_inputs (w : Word) : (presentWord w s).inputs = .write cmdAddr w :: s.inputs := rfl
@[simp] theorem presentWord_replies (w : Word) : (presentWord w s).replies = s.replies := rfl
@[simp] theorem presentWord_trace (w : Word) : (presentWord w s).trace = s.trace := rfl
@[simp] theorem presentWord_words (w : Word) : (presentWord w s).words = s.words := rfl
@[simp] theorem presentWord_writes (w : Word) : (presentWord w s).writes = s.writes := rfl
@[simp] theorem presentWord_blocks (w : Word) : (presentWord w s).blocks = s.blocks := rfl
@[simp] theorem presentWord_sleeps (w : Word) : (presentWord w s).sleeps = s.sleeps := rfl
@[simp] theorem presentWord_noValues (w : Word) : (presentWord w s).noValues = s.noValues := rfl
@[simp] theorem presentWord_readDraws (w : Word) : (presentWord w s).readDraws = s.readDraws := rfl

/-! ### illegalWord -/

@[simp] theorem illegalWord_calib : (illegalWord s).calib = s.calib := rfl
@[simp] theorem illegalWord_calValid : (illegalWord s).calValid = s.calValid := rfl
@[simp] theorem illegalWord_prom : (illegalWord s).prom = s.prom := rfl
@[simp] theorem illegalWord_crcReg : (illegalWord s).crcReg = s.crcReg := rfl
@[simp] theorem illegalWord_osrP : (illegalWord s).osrP = s.osrP := rfl
@[simp] theorem illegalWord_osrT : (illegalWord s).osrT = s.osrT := rfl
@[simp] theorem illegalWord_rawP : (illegalWord s).rawP = s.rawP := rfl
@[simp] theorem illegalWord_rawT : (illegalWord s).rawT = s.rawT := rfl
@[simp] theorem illegalWord_rawPValid : (illegalWord s).rawPValid = s.rawPValid := rfl
@[simp] theorem illegalWord_rawTValid : (illegalWord s).rawTValid = s.rawTValid := rfl
@[simp] theorem illegalWord_temp : (illegalWord s).temp = s.temp := rfl
@[simp] theorem illegalWord_press : (illegalWord s).press = s.press := rfl
@[simp] theorem illegalWord_outValid : (illegalWord s).outValid = s.outValid := rfl
@[simp] theorem illegalWord_err : (illegalWord s).err = .eIllegal := rfl
@[simp] theorem illegalWord_seq : (illegalWord s).seq = .idle := rfl
@[simp] theorem illegalWord_timer : (illegalWord s).timer = s.timer := rfl
@[simp] theorem illegalWord_heldValid : (illegalWord s).heldValid = s.heldValid := rfl
@[simp] theorem illegalWord_inputs : (illegalWord s).inputs = s.inputs := rfl
@[simp] theorem illegalWord_replies : (illegalWord s).replies = s.replies := rfl
@[simp] theorem illegalWord_trace : (illegalWord s).trace = s.trace := rfl
@[simp] theorem illegalWord_words : (illegalWord s).words = s.words := rfl
@[simp] theorem illegalWord_writes : (illegalWord s).writes = s.writes := rfl
@[simp] theorem illegalWord_blocks : (illegalWord s).blocks = s.blocks := rfl
@[simp] theorem illegalWord_sleeps : (illegalWord s).sleeps = s.sleeps := rfl
@[simp] theorem illegalWord_noValues : (illegalWord s).noValues = s.noValues := rfl
@[simp] theorem illegalWord_readDraws : (illegalWord s).readDraws = s.readDraws := rfl

/-! ### hostRead -/

@[simp] theorem hostRead_calib (a : HostAddr) : (hostRead a s).calib = s.calib := by unfold hostRead; split <;> rfl
@[simp] theorem hostRead_calValid (a : HostAddr) : (hostRead a s).calValid = s.calValid := by unfold hostRead; split <;> rfl
@[simp] theorem hostRead_prom (a : HostAddr) : (hostRead a s).prom = s.prom := by unfold hostRead; split <;> rfl
@[simp] theorem hostRead_crcReg (a : HostAddr) : (hostRead a s).crcReg = s.crcReg := by unfold hostRead; split <;> rfl
@[simp] theorem hostRead_osrP (a : HostAddr) : (hostRead a s).osrP = s.osrP := by unfold hostRead; split <;> rfl
@[simp] theorem hostRead_osrT (a : HostAddr) : (hostRead a s).osrT = s.osrT := by unfold hostRead; split <;> rfl
@[simp] theorem hostRead_rawP (a : HostAddr) : (hostRead a s).rawP = s.rawP := by unfold hostRead; split <;> rfl
@[simp] theorem hostRead_rawT (a : HostAddr) : (hostRead a s).rawT = s.rawT := by unfold hostRead; split <;> rfl
@[simp] theorem hostRead_rawPValid (a : HostAddr) : (hostRead a s).rawPValid = s.rawPValid := by unfold hostRead; split <;> rfl
@[simp] theorem hostRead_rawTValid (a : HostAddr) : (hostRead a s).rawTValid = s.rawTValid := by unfold hostRead; split <;> rfl
@[simp] theorem hostRead_temp (a : HostAddr) : (hostRead a s).temp = s.temp := by unfold hostRead; split <;> rfl
@[simp] theorem hostRead_press (a : HostAddr) : (hostRead a s).press = s.press := by unfold hostRead; split <;> rfl
@[simp] theorem hostRead_outValid (a : HostAddr) : (hostRead a s).outValid = s.outValid := by unfold hostRead; split <;> rfl
@[simp] theorem hostRead_err (a : HostAddr) : (hostRead a s).err = s.err := by unfold hostRead; split <;> rfl
@[simp] theorem hostRead_seq (a : HostAddr) : (hostRead a s).seq = s.seq := by unfold hostRead; split <;> rfl
@[simp] theorem hostRead_timer (a : HostAddr) : (hostRead a s).timer = s.timer := by unfold hostRead; split <;> rfl
@[simp] theorem hostRead_heldValid (a : HostAddr) : (hostRead a s).heldValid = s.heldValid := by unfold hostRead; split <;> rfl
@[simp] theorem hostRead_inputs (a : HostAddr) : (hostRead a s).inputs = s.inputs := by unfold hostRead; split <;> rfl
@[simp] theorem hostRead_trace (a : HostAddr) : (hostRead a s).trace = s.trace := by unfold hostRead; split <;> rfl
@[simp] theorem hostRead_words (a : HostAddr) : (hostRead a s).words = s.words := by unfold hostRead; split <;> rfl
@[simp] theorem hostRead_writes (a : HostAddr) : (hostRead a s).writes = s.writes := by unfold hostRead; split <;> rfl
@[simp] theorem hostRead_blocks (a : HostAddr) : (hostRead a s).blocks = s.blocks := by unfold hostRead; split <;> rfl
@[simp] theorem hostRead_sleeps (a : HostAddr) : (hostRead a s).sleeps = s.sleeps := by unfold hostRead; split <;> rfl
@[simp] theorem hostRead_noValues (a : HostAddr) : (hostRead a s).noValues = s.noValues := by unfold hostRead; split <;> rfl

end Sys2Proof.Machine
end

