-- ==== Sys2Proof/Laws/Ops.lean ====
section
/-! SUPPORT. One lemma per shared operation: the oracle, the sequencer's transitions, acceptance, host reads. -/

namespace Sys2Proof.Machine

/-! ### Inputs -/

@[simp] theorem Oracle.peek_cons {α : Type} (free : Nat → α) (a : α) (rest : List α) (n : Nat) :
    (Oracle.mk (a :: rest) n).peek free = a := rfl

@[simp] theorem Oracle.peek_nil {α : Type} (free : Nat → α) (n : Nat) : (Oracle.mk [] n).peek free = free n := rfl

@[simp] theorem Oracle.advance_cons {α : Type} (a : α) (rest : List α) (n : Nat) :
    (Oracle.mk (a :: rest) n).advance = ⟨rest, n⟩ := rfl

@[simp] theorem Oracle.advance_nil {α : Type} (n : Nat) : (Oracle.mk ([] : List α) n).advance = ⟨[], n + 1⟩ := rfl

@[simp] theorem Oracle.skip_zero {α : Type} (o : Oracle α) : o.skip 0 = o := rfl

theorem Oracle.skip_succ {α : Type} (n : Nat) (o : Oracle α) : o.skip (n + 1) = o.advance.skip n := rfl

theorem Oracle.skip_advance {α : Type} (n : Nat) (o : Oracle α) : (o.skip n).advance = o.skip (n + 1) := by
  induction n generalizing o with
  | zero => rfl
  | succ n ih => exact ih o.advance

theorem Oracle.nth_zero {α : Type} (free : Nat → α) (o : Oracle α) : o.nth free 0 = o.peek free := rfl

theorem Oracle.nth_succ {α : Type} (free : Nat → α) (n : Nat) (o : Oracle α) :
    o.nth free (n + 1) = o.advance.nth free n := rfl

theorem State.nextWord_of_skip (s t : State) (n : Nat) (h : t.words = s.words.skip n) :
    t.nextWord = s.words.nth Config.freeWord n := by
  rw [State.nextWord, h]; rfl

/-! ### BUSY -/

theorem busy_eq_false_iff (s : State) : s.busy = false ↔ s.seq = .idle := by simp [State.busy]

theorem busy_eq_true_iff (s : State) : s.busy = true ↔ s.seq ≠ .idle := by simp [State.busy]

/-! ### The sequencer -/

theorem tick_idle {s : State} (h : s.seq = .idle) : tick s = s := by simp [tick, h]

theorem tick_calRd {s : State} {i : Fin 8} (h : s.seq = .calRd i) : tick s = calReadWord i s := by simp [tick, h]

theorem tick_calCrc {s : State} (h : s.seq = .calCrc) : tick s = calCheck s := by simp [tick, h]

theorem tick_convCmd {s : State} {ch : Channel} (h : s.seq = .convCmd ch) : tick s = convWrite ch s := by
  simp [tick, h]

theorem tick_convWait {s : State} {ch : Channel} (h : s.seq = .convWait ch) : tick s = convWait ch s := by
  simp [tick, h]

theorem tick_convRd {s : State} {ch : Channel} (h : s.seq = .convRd ch) : tick s = convRead ch s := by simp [tick, h]

theorem tick_compRun {s : State} (h : s.seq = .compRun) : tick s = compRun s := by simp [tick, h]

@[simp] theorem ticks_zero (s : State) : ticks 0 s = s := rfl

theorem ticks_succ (n : Nat) (s : State) : ticks (n + 1) s = ticks n (tick s) := rfl

theorem ticks_idle (n : Nat) {s : State} (h : s.seq = .idle) : ticks n s = s := by
  induction n with
  | zero => rfl
  | succ n ih => rw [ticks_succ, tick_idle h, ih]

theorem ticks_add (m n : Nat) (s : State) : ticks (m + n) s = ticks n (ticks m s) := by
  induction m generalizing s with
  | zero => simp
  | succ m ih => rw [Nat.add_right_comm, ticks_succ, ticks_succ, ih]

theorem runCommand_idle (start : State → State) {s : State} (h : s.busy = false) :
    runCommand start s = finish (start s) := by simp [runCommand, h]

theorem runCommand_busy (start : State → State) {s : State} (h : s.busy = true) : runCommand start s = s := by
  simp [runCommand, h]

/-- Every arm of `exec` is the acceptance of its command, run to the end. -/
theorem exec_eq_runCommand (i : Instr) (s : State) : exec i s = .next (runCommand (startInstr i) s) := by
  cases i <;> rfl

/-! ### What each transition can do -/

/-- CAL_RD(i): the read fails and the command ends, or the word is stored and the sequencer goes on. -/
theorem calReadWord_cases (i : Fin 8) (s : State) :
    (s.nextWord = .ioError ∧ calReadWord i s = endCal .eIo (busReadWord (promOffset i) s)) ∨
    (∃ w, s.nextWord = .ok w ∧
      calReadWord i s = { busReadWord (promOffset i) s with prom := s.prom.set i w, seq := afterCalRd i }) := by
  unfold calReadWord
  cases h : s.nextWord with
  | ok w => exact .inr ⟨w, rfl, rfl⟩
  | ioError => exact .inl ⟨rfl, rfl⟩

/-- CAL_CRC: the image is valid and its constants are latched, or E_INTEGRITY. -/
theorem calCheck_cases (s : State) :
    (validImage s.prom = true ∧
      calCheck s = endCal .ok { s with crcReg := crcRegister s.prom, calib := constsOf s.prom, calValid := true }) ∨
    (validImage s.prom = false ∧ calCheck s = endCal .eIntegrity { s with crcReg := crcRegister s.prom }) := by
  unfold calCheck
  cases h : validImage s.prom
  · exact .inr ⟨rfl, rfl⟩
  · exact .inl ⟨rfl, rfl⟩

/-- CONV_CMD(ch): the write fails, or the timer starts. -/
theorem convWrite_cases (ch : Channel) (s : State) :
    (s.nextWrite = .ioError ∧ convWrite ch s = failConv ch (busWriteCommand (s.row ch).cmd s)) ∨
    (s.nextWrite = .ok () ∧
      convWrite ch s = { busWriteCommand (s.row ch).cmd s with timer := 0, seq := .convWait ch }) := by
  unfold convWrite
  cases h : s.nextWrite with
  | ok u => exact .inr ⟨rfl, rfl⟩
  | ioError => exact .inl ⟨rfl, rfl⟩

/-- CONV_RD(ch): the read fails, or the sample is latched. -/
theorem convRead_cases (ch : Channel) (s : State) :
    (s.nextBlock = .ioError ∧ convRead ch s = failConv ch (busReadBlock Config.params.adcReg s)) ∨
    (∃ b, s.nextBlock = .ok b ∧ convRead ch s =
      endCommand .ok (putSample ch (assembleSample b) (busReadBlock Config.params.adcReg s))) := by
  unfold convRead
  cases h : s.nextBlock with
  | ok b => exact .inr ⟨b, rfl, rfl⟩
  | ioError => exact .inl ⟨rfl, rfl⟩

/-- OSR.SETx: the rate is refused, or its row becomes active. -/
theorem startOsr_cases (ch : Channel) (rate : Nat) (s : State) :
    (rateIndex rate = none ∧ startOsr ch rate s = endCommand .eRate s) ∨
    (∃ idx, rateIndex rate = some idx ∧ startOsr ch rate s = endCommand .ok (setOsr ch idx s)) := by
  unfold startOsr
  cases h : rateIndex rate with
  | none => exact .inl ⟨rfl, rfl⟩
  | some idx => exact .inr ⟨idx, rfl, rfl⟩

/-- COMP starts: one of its two refusals, or COMP_RUN. -/
theorem startComp_cases (s : State) :
    (s.calValid = false ∧ startComp s = endCommand .eNoCal s) ∨
    (s.calValid = true ∧ (s.rawTValid = false ∨ s.rawPValid = false) ∧ startComp s = endCommand .eNoSample s) ∨
    (s.calValid = true ∧ s.rawTValid = true ∧ s.rawPValid = true ∧ startComp s = { s with seq := .compRun }) := by
  unfold startComp
  cases s.calValid <;> cases s.rawTValid <;> cases s.rawPValid <;> simp

/-- A host read returns the register's value, or a free word where it holds none. -/
theorem hostRead_cases (a : HostAddr) (s : State) :
    (∃ v, hostValue a s = some v ∧ hostRead a s = { s with replies := s.replies ++ [⟨a, v⟩] }) ∨
    (hostValue a s = none ∧ hostRead a s =
      { s with
        replies := s.replies ++ [⟨a, Config.unspecifiedWord s.readDraws⟩]
        readDraws := s.readDraws + 1 }) := by
  unfold hostRead
  cases h : hostValue a s with
  | none => exact .inr ⟨rfl, rfl⟩
  | some v => exact .inl ⟨v, rfl, rfl⟩

/-- What a step does: without an access a sequencer transition; otherwise that access. -/
theorem step_of_inputs (s : State) :
    (s.inputs = [] ∧ step s = .next (tick s)) ∨
    (∃ a rest, s.inputs = a :: rest ∧ step s = hostAccess a s) := by
  unfold step
  cases h : s.inputs with
  | nil => exact .inl ⟨rfl, rfl⟩
  | cons a rest => exact .inr ⟨a, rest, rfl, rfl⟩

end Sys2Proof.Machine
end

