-- ==== Sys2Proof/Laws/Calibration.lean ====
section
/-! SUPPORT. How CAL.LOAD's reads build up the image and the trace. -/

namespace Sys2Proof.Machine

/-- Storing word `i` extends the events by the read of word `i`. -/
theorem imageReads_succ (img : PromImage) (i : Fin 8) (w : Half) :
    imageReads (img.set i w) (i.val + 1) = imageReads img i.val ++ [.wordRead (promOffset i) (.ok w)] := by
  have at_j : ∀ j : Fin 8, (img.set i w)[j] = if j = i then w else img[j] := by
    intro j
    simp only [Fin.getElem_fin, Vector.getElem_set]
    by_cases h : j = i
    · subst h
      simp
    · rw [if_neg h, if_neg]
      intro hh
      exact h (Fin.ext hh.symm)
  fin_cases i <;> simp [imageReads, List.finRange, at_j]

theorem imageReads_succ_self (img : PromImage) (i : Fin 8) :
    imageReads img (i.val + 1) = imageReads img i.val ++ [.wordRead (promOffset i) (.ok img[i])] := by
  have h := imageReads_succ img i img[i]
  rwa [show img.set i img[i] = img by simp] at h

theorem calReadWord_of_ok {i : Fin 8} {s : State} {w : Half} (h : s.nextWord = .ok w) :
    calReadWord i s = { busReadWord (promOffset i) s with prom := s.prom.set i w, seq := afterCalRd i } := by
  rcases calReadWord_cases i s with ⟨h', -⟩ | ⟨w', h', e⟩
  · rw [h] at h'
    cases h'
  · rw [h] at h'
    cases h'
    exact e

theorem calReadWord_of_ioError {i : Fin 8} {s : State} (h : s.nextWord = .ioError) :
    calReadWord i s = endCal .eIo (busReadWord (promOffset i) s) := by
  rcases calReadWord_cases i s with ⟨-, e⟩ | ⟨w', h', -⟩
  · exact e
  · rw [h] at h'
    cases h'

/-- The state after `k` words of `img` have been read, the buffer standing at `buffer`. -/
def afterReads (s : State) (img buffer : PromImage) (k : Nat) (q : Seq) : State :=
  { s with prom := buffer, words := s.words.skip k, trace := s.trace ++ imageReads img k, seq := q }

/-- One more word read. -/
theorem calReadWord_afterReads (s : State) (img buffer : PromImage) (i : Fin 8)
    (h : s.words.nth Config.freeWord i.val = .ok img[i]) :
    calReadWord i (afterReads s img buffer i.val (.calRd i)) =
      afterReads s img (buffer.set i img[i]) (i.val + 1) (afterCalRd i) := by
  have next : (afterReads s img buffer i.val (.calRd i)).nextWord = .ok img[i] := by
    rw [State.nextWord_of_skip s _ i.val rfl, h]
  rw [calReadWord_of_ok next, busReadWord, next, afterReads, afterReads, imageReads_succ_self]
  simp [Oracle.skip_advance]

/-- The sequencer at CAL_RD(k) after the first `k` words have been read. -/
theorem ticks_calRd (s : State) (img : PromImage) (k : Nat) (hk : k < 8)
    (h : ∀ i : Fin 8, i.val < k → s.words.nth Config.freeWord i.val = .ok img[i]) :
    ∃ buffer : PromImage, (∀ j : Fin 8, j.val < k → buffer[j] = img[j]) ∧
      ticks k { s with seq := .calRd 0 } = afterReads s img buffer k (.calRd ⟨k, hk⟩) := by
  induction k with
  | zero => exact ⟨s.prom, by simp, by simp [afterReads, imageReads]⟩
  | succ k ih =>
    obtain ⟨buffer, hb, e⟩ := ih (by omega) (fun i hi => h i (by omega))
    refine ⟨buffer.set k img[k], ?_, ?_⟩
    · intro j hj
      by_cases hjk : j.val = k
      · simp [hjk]
      · have := hb j (by omega)
        simp only [Fin.getElem_fin] at *
        rw [Vector.getElem_set_ne _ _ (by omega), this]
    · have one := calReadWord_afterReads s img buffer ⟨k, by omega⟩ (h ⟨k, by omega⟩ (by simp))
      rw [ticks_add k 1, e, ticks_succ, ticks_zero, tick_calRd (i := ⟨k, by omega⟩) rfl, one]
      simp [afterCalRd, hk]

/-- The sequencer at CAL_CRC, the whole image in the buffer. -/
theorem ticks_calCrc (s : State) (img : PromImage)
    (h : ∀ i : Fin 8, s.words.nth Config.freeWord i.val = .ok img[i]) :
    ticks 8 { s with seq := .calRd 0 } = afterReads s img img 8 .calCrc := by
  obtain ⟨buffer, hb, e⟩ := ticks_calRd s img 7 (by omega) (fun i _ => h i)
  have one := calReadWord_afterReads s img buffer 7 (h 7)
  have whole : buffer.set 7 img[7] = img := by
    apply Vector.ext
    intro j hj
    by_cases hjk : j = 7
    · subst hjk
      simp
    · rw [Vector.getElem_set_ne _ _ (by omega)]
      exact hb ⟨j, hj⟩ (by simp; omega)
  rw [ticks_add 7 1, e, ticks_succ, ticks_zero, tick_calRd (i := 7) rfl]
  refine one.trans ?_
  simp only [afterReads, afterCalRd]
  simp
  exact whole

end Sys2Proof.Machine
end

