-- ==== Sys2Proof/Laws/Config.lean ====
section
/-! SUPPORT. The OPEN parameters meet the constraints of 00_scope.md R8. -/

namespace Sys2Proof

theorem recommended_meetsR8 : Params.recommended.meetsR8 = true := by decide

theorem params_meetsR8 : Config.params.meetsR8 = true := by
  unfold Config.params
  split
  · assumption
  · exact recommended_meetsR8

theorem params_distinctCommands : (Config.params.cmdP.toList ++ Config.params.cmdT.toList).Nodup := by
  have h := params_meetsR8
  simp only [Params.meetsR8, Params.distinctCommands, Bool.and_eq_true, decide_eq_true_eq] at h
  exact h.1.1

theorem params_delaysIncrease : Config.params.delayUs.toList.Pairwise (· < ·) := by
  have h := params_meetsR8
  simp only [Params.meetsR8, Params.delaysIncrease, Bool.and_eq_true, decide_eq_true_eq] at h
  exact h.1.2

theorem params_offsetsFit : Config.params.caliBase.toNat ≤ 241 := by
  have h := params_meetsR8
  simp only [Params.meetsR8, Params.offsetsFit, Bool.and_eq_true, decide_eq_true_eq] at h
  exact h.2

end Sys2Proof
end

