-- ==== Sys2Proof/Laws/Crc.lean ====
section
/-! SUPPORT. Small lemmas of the CRC register. -/

namespace Sys2Proof.Machine

@[simp] theorem crcShifts_zero (r : Half) : crcShifts 0 r = r := rfl

theorem crcShifts_succ (n : Nat) (r : Half) : crcShifts (n + 1) r = crcShifts n (crcShift r) := rfl

/-- One iteration is linear. -/
theorem crcShift_xor (a b : Half) : crcShift (a ^^^ b) = crcShift a ^^^ crcShift b := by
  unfold crcShift
  rw [BitVec.msb_xor, BitVec.shiftLeft_xor_distrib]
  cases a.msb <;> cases b.msb
  · rfl
  · simp [BitVec.xor_assoc]
  · simp only [Bool.bne_false, if_true, Bool.false_eq_true, if_false]
    rw [BitVec.xor_assoc, BitVec.xor_comm (b <<< 1), ← BitVec.xor_assoc]
  · simp only [bne_self_eq_false, Bool.false_eq_true, if_true, if_false]
    rw [BitVec.xor_assoc (a <<< 1), ← BitVec.xor_assoc crcPoly, BitVec.xor_comm crcPoly, BitVec.xor_assoc (b <<< 1),
      BitVec.xor_self]
    simp

theorem crcShifts_xor (n : Nat) (a b : Half) : crcShifts n (a ^^^ b) = crcShifts n a ^^^ crcShifts n b := by
  induction n generalizing a b with
  | zero => rfl
  | succ n ih => rw [crcShifts_succ, crcShift_xor, ih]; rfl

/-- The sixteen bytes of an image, word by word. -/
theorem imageBytes_eq (img : PromImage) :
    imageBytes img = wordBytes img[0] ++ wordBytes img[1] ++ wordBytes img[2] ++ wordBytes img[3] ++
      wordBytes img[4] ++ wordBytes img[5] ++ wordBytes img[6] ++ wordBytes img[7] := by
  have h : img.toList = [img[0], img[1], img[2], img[3], img[4], img[5], img[6], img[7]] := by
    apply List.ext_getElem
    · simp
    · intro n h1 h2
      have : n < 8 := by simpa using h1
      interval_cases n <;> simp
  simp [imageBytes, h]

end Sys2Proof.Machine
end

