-- ==== Sys2Proof/Laws/Decode.lean ====
section
/-! SUPPORT. The fields of a command word in numbers. -/

namespace Sys2Proof

theorem opField_toNat (w : Word) : (opField w).toNat = w.toNat / 2 ^ 28 := by
  have := w.isLt
  simp [opField, BitVec.extractLsb'_toNat, Nat.shiftRight_eq_div_pow]
  omega

theorem rsvField_toNat (w : Word) : (rsvField w).toNat = w.toNat / 2 ^ 16 % 2 ^ 12 := by
  simp [rsvField, BitVec.extractLsb'_toNat, Nat.shiftRight_eq_div_pow]

theorem immField_toNat (w : Word) : (immField w).toNat = w.toNat % 2 ^ 16 := by
  simp [immField, BitVec.extractLsb'_toNat]

theorem commandWord_toNat (op : BitVec 4) (imm : Half) :
    (commandWord op imm).toNat = op.toNat * 2 ^ 28 + imm.toNat := by
  have h1 := op.isLt
  have h2 := imm.isLt
  have h3 : op.toNat % 4294967296 = op.toNat := Nat.mod_eq_of_lt (by omega)
  have h4 : imm.toNat % 4294967296 = imm.toNat := Nat.mod_eq_of_lt (by omega)
  have h5 : op.toNat <<< 28 % 4294967296 = op.toNat <<< 28 := by
    rw [Nat.shiftLeft_eq]
    exact Nat.mod_eq_of_lt (by omega)
  simp only [commandWord, BitVec.toNat_or, BitVec.toNat_shiftLeft, BitVec.toNat_setWidth, Nat.reducePow, h3, h4, h5]
  rw [← Nat.shiftLeft_add_eq_or_of_lt (by omega), Nat.shiftLeft_eq]

theorem opField_commandWord (op : BitVec 4) (imm : Half) : opField (commandWord op imm) = op := by
  have := imm.isLt
  apply BitVec.eq_of_toNat_eq
  rw [opField_toNat, commandWord_toNat]
  omega

theorem rsvField_commandWord (op : BitVec 4) (imm : Half) : rsvField (commandWord op imm) = 0 := by
  have := imm.isLt
  apply BitVec.eq_of_toNat_eq
  rw [rsvField_toNat, commandWord_toNat]
  simp
  omega

theorem immField_commandWord (op : BitVec 4) (imm : Half) : immField (commandWord op imm) = imm := by
  have := imm.isLt
  apply BitVec.eq_of_toNat_eq
  rw [immField_toNat, commandWord_toNat]
  omega

end Sys2Proof
end

