-- ==== Sys2Proof/Laws/Operands.lean ====
section
/-! SUPPORT. The exact shifts, the rate table and the settling time. -/

namespace Sys2Proof.Machine

theorem shl_eq (x : Int) (n : Nat) : shl x n = x * 2 ^ n := rfl

theorem shr_eq (x : Int) (n : Nat) : shr x n = x / 2 ^ n := rfl

theorem shr_eq_fdiv (x : Int) (n : Nat) : shr x n = Int.fdiv x (2 ^ n) := by
  rw [shr, Int.fdiv_eq_ediv_of_nonneg _ (by positivity)]

theorem shr_mono {x y : Int} (n : Nat) (h : x ≤ y) : shr x n ≤ shr y n := Int.ediv_le_ediv (by positivity) h

theorem shr_nonneg {x : Int} (n : Nat) (h : 0 ≤ x) : 0 ≤ shr x n := Int.ediv_nonneg h (by positivity)

theorem shr_neg_iff {x : Int} (n : Nat) : shr x n < 0 ↔ x < 0 := by
  unfold shr
  constructor
  · intro h
    by_contra hx
    exact absurd (Int.ediv_nonneg (not_lt.mp hx) (by positivity : (0 : Int) ≤ 2 ^ n)) (not_le.mpr h)
  · intro h
    exact Int.ediv_neg_of_neg_of_pos h (by positivity)

theorem rateOf_eq (idx : Fin 5) : rateOf idx = 2 ^ (idx.val + 8) := by
  fin_cases idx <;> rfl

theorem rateIndex_rateOf (idx : Fin 5) : rateIndex (rateOf idx) = some idx := by
  fin_cases idx <;> rfl

theorem rateIndex_eq_some {rate : Nat} {idx : Fin 5} (h : rateIndex rate = some idx) : rate = rateOf idx := by
  simp only [rateIndex] at h
  split at h
  · cases h; assumption
  split at h
  · cases h; assumption
  split at h
  · cases h; assumption
  split at h
  · cases h; assumption
  split at h
  · cases h; assumption
  · cases h

theorem rateIndex_eq_none {rate : Nat} (h : ∀ idx, rate ≠ rateOf idx) : rateIndex rate = none := by
  simp [rateIndex, h]

@[simp] theorem osrRow_cmd (ch : Channel) (idx : Fin 5) : (osrRow ch idx).cmd = commandOf ch idx := rfl

@[simp] theorem osrRow_delay (ch : Channel) (idx : Fin 5) : (osrRow ch idx).delay = delayOf idx := rfl

@[simp] theorem osrRow_rate (ch : Channel) (idx : Fin 5) : (osrRow ch idx).rate = rateOf idx := rfl

theorem settleTime_eq (d e : Nat) : settleTime d e = d + e % (d / 10 + 1) := rfl

end Sys2Proof.Machine
end

