-- ==== Sys2Proof/Laws/PerInstr.lean ====
section
/-! SUPPORT. A statement for all instructions: every well-formed command's word meets the mask and match of its row of
spec/opcode_table.json, and its OP field is the one of 30_encoding.md R52. -/

namespace Sys2Proof.Laws.TableRow

/-- The row's `mask`. -/
def mask : Instr → Word
  | .calLoad => 0xFFFFFFFF
  | .osrSetp _ => 0xFFFF0000
  | .osrSett _ => 0xFFFF0000
  | .convP => 0xFFFFFFFF
  | .convT => 0xFFFFFFFF
  | .comp => 0xFFFFFFFF

/-- The row's `match`. -/
def pattern : Instr → Word
  | .calLoad => 0x10000000
  | .osrSetp _ => 0x20000000
  | .osrSett _ => 0x30000000
  | .convP => 0x40000000
  | .convT => 0x50000000
  | .comp => 0x60000000

def Statement (i : Instr) : Prop := i.wellFormed = true → encode i &&& mask i = pattern i

/-- A word with an operand, masked to its sixteen high bits. -/
theorem commandWord_high (op : BitVec 4) (imm : Half) :
    commandWord op imm &&& 0xFFFF0000#32 = commandWord op 0 := by
  have h : (imm.setWidth 32 : Word) &&& 0xFFFF0000#32 = 0 := by
    ext k hk
    by_cases h16 : k < 16
    · have low : ∀ j : Fin 16, (0xFFFF0000#32).getLsbD j.val = false := by decide
      have : (0xFFFF0000#32)[k] = false := by
        rw [← BitVec.getLsbD_eq_getElem]
        exact low ⟨k, h16⟩
      simp [this]
    · simp [BitVec.getLsbD_of_ge imm k (by omega)]
  have h' : ∀ o : BitVec 4, (o.setWidth 32 <<< 28 : Word) &&& 0xFFFF0000#32 = o.setWidth 32 <<< 28 := by decide
  simp only [commandWord]
  rw [BitVec.and_comm, BitVec.and_or_distrib_left, BitVec.and_comm _ (op.setWidth 32 <<< 28), h',
    BitVec.and_comm _ (imm.setWidth 32), h]
  simp

theorem calLoad : Statement .calLoad := fun _ => by decide

theorem osrSetp (rate : Nat) : Statement (.osrSetp rate) := fun _ => by
  show commandWord 2#4 (BitVec.ofNat 16 rate) &&& 0xFFFF0000#32 = 0x20000000#32
  rw [commandWord_high]
  decide

theorem osrSett (rate : Nat) : Statement (.osrSett rate) := fun _ => by
  show commandWord 3#4 (BitVec.ofNat 16 rate) &&& 0xFFFF0000#32 = 0x30000000#32
  rw [commandWord_high]
  decide

theorem convP : Statement .convP := fun _ => by decide

theorem convT : Statement .convT := fun _ => by decide

theorem comp : Statement .comp := fun _ => by decide

end Sys2Proof.Laws.TableRow
end

