-- ==== Sys2Proof/Tests/Slice0.lean ====
section
/-! SUPPORT. Tests: words written out from the spec's encodings, the vectors of spec/95_test_vectors.md (hand-derived
there from the rules), the checks' refusals, and for each statement with hypotheses a state that meets them. -/

namespace Sys2Proof.Tests

open Sys2Proof.Machine

/-! ### Helpers -/

/-- The reset state with scripted bus answers. -/
def withBus (words : List (Answer Half)) (writes : List (Answer Unit)) (blocks : List (Answer Block)) : State :=
  { State.reset with words := ⟨words, 0⟩, writes := ⟨writes, 0⟩, blocks := ⟨blocks, 0⟩ }

/-- The state an outcome gives. -/
def after : Host.Outcome State Fault Refusal → State
  | .next t => t
  | .fault _ => State.reset
  | .refused _ => State.reset

/-- One step with a command word at the port. -/
def stepWord (w : Nat) (s : State) : State := after (step (s.withFetchWord 32 w))

/-- The image AN of 95_test_vectors.md. -/
def imageAN : PromImage := #v[0x3132#16, 0x3334#16, 0x3536#16, 0x3738#16, 0x3940#16, 0x4142#16, 0x4344#16, 0x450B#16]

/-- The image DS of 95_test_vectors.md. -/
def imageDS : PromImage := #v[0x1234#16, 0x9CBF#16, 0x903C#16, 0x5B15#16, 0x5AF2#16, 0x82B8#16, 0x6E98#16, 0xAB0C#16]

/-- The constants `ds` of 95_test_vectors.md. -/
def constsDS : Consts := ⟨40127, 36924, 23317, 23282, 33464, 28312⟩

/-- A bus that answers the eight word reads with an image. -/
def answering (img : PromImage) : State := withBus (img.toList.map Answer.ok) [] []

/-- Calibrated with `ds`, with the samples of vector M1. -/
def sampled : State :=
  { State.reset with
    calib := constsDS
    calValid := true
    rawT := 8569150
    rawTValid := true
    rawP := 9085466
    rawPValid := true }

/-! ### Checks that refuse -/

theorem test_wellFormed_refuses_wide_pressure_rate : (Instr.osrSetp 65536).wellFormed = false := by decide

theorem test_wellFormed_refuses_wide_temperature_rate : (Instr.osrSett 65792).wellFormed = false := by decide

theorem test_params_refuse_equal_commands :
    (Params.mk #v[0x40, 0x42, 0x44, 0x46, 0x48] #v[0x40, 0x52, 0x54, 0x56, 0x58] #v[1, 2, 3, 4, 5] 0 0).meetsR8 = false := by
  decide

theorem test_params_refuse_equal_delays :
    (Params.mk #v[0x40, 0x42, 0x44, 0x46, 0x48] #v[0x50, 0x52, 0x54, 0x56, 0x58] #v[1, 2, 2, 4, 5] 0 0).meetsR8 = false := by
  decide

theorem test_params_refuse_wrapping_offsets :
    (Params.mk #v[0x40, 0x42, 0x44, 0x46, 0x48] #v[0x50, 0x52, 0x54, 0x56, 0x58] #v[1, 2, 3, 4, 5] 242 0).meetsR8 = false := by
  decide

/-! ### Decoding (30_encoding.md R51, R52: OP in 31:28, RSV 27:16, IMM 15:0) -/

theorem test_decode_calLoad : decode 0b0001_000000000000_0000000000000000#32 = .ok .calLoad := by decide

theorem test_decode_osrSetp : decode 0b0010_000000000000_0000010000000000#32 = .ok (.osrSetp 1024) := by decide

theorem test_decode_osrSett : decode 0b0011_000000000000_1111111111111111#32 = .ok (.osrSett 65535) := by decide

theorem test_decode_convP : decode 0b0100_000000000000_0000000000000000#32 = .ok .convP := by decide

theorem test_decode_convT : decode 0b0101_000000000000_0000000000000000#32 = .ok .convT := by decide

theorem test_decode_comp : decode 0b0110_000000000000_0000000000000000#32 = .ok .comp := by decide

/-- Vectors E11 to E17. -/
theorem test_decode_illegal :
    [decode 0x00000000#32, decode 0xFFFFFFFF#32, decode 0x70000000#32, decode 0x10000001#32, decode 0x20010100#32,
      decode 0x60000400#32, decode 0x4FFF0000#32] =
    [.error .noSuchOperation, .error .reservedFieldNonzero, .error .noSuchOperation, .error .operandNonzero,
      .error .reservedFieldNonzero, .error .operandNonzero, .error .reservedFieldNonzero] := by decide

theorem test_decodeTableWord : decodeTableWord 32 0x30000BB8 = some (.osrSett 3000) := by decide

/-- The examples of 30_encoding.md R60. -/
theorem test_assemble_rate : assembleLine "OSR.SETP 1024 ; rate" = some [0x20000400#32] ∧
    assembleLine "OSR.SETT 0xBB8" = some [0x30000BB8#32] ∧ assembleLine "OSR.SETT 65536" = none := by decide

theorem test_assemble_cycle : assembleLine "CYCLE" = some [0x40000000#32, 0x50000000#32, 0x60000000#32] := by decide

/-- Lines 1 and 4 of program P5 of 95_test_vectors.md, and a number wider than a word. -/
theorem test_assemble_word : assembleLine ".word 0x00000000" = some [0#32] ∧
    assembleLine ".word 0x20010100" = some [0x20010100#32] ∧ assembleLine ".word 0x100000000" = none := by decide

/-! ### One step per command -/

/-- Vector K1: CAL.LOAD of the image AN. -/
theorem test_calLoad_ok : (stepWord 0x10000000 (answering imageAN)).calib =
      ⟨0x3334, 0x3536, 0x3738, 0x3940, 0x4142, 0x4344⟩ ∧
    (stepWord 0x10000000 (answering imageAN)).statusWord = 0x00000002#32 := by decide +kernel

/-- Vector K13: the fourth read fails. -/
theorem test_calLoad_ioError :
    (stepWord 0x10000000 (withBus [.ok 0x1234, .ok 0x9CBF, .ok 0x903C, .ioError, .ok 0x5AF2] [] [])).statusWord =
      0x00000300#32 ∧
    (stepWord 0x10000000 (withBus [.ok 0x1234, .ok 0x9CBF, .ok 0x903C, .ioError, .ok 0x5AF2] [] [])).words.script =
      [.ok 0x5AF2] := by decide +kernel

/-- Vector O3. -/
theorem test_osrSetp_1024 : (stepWord 0x20000400 State.reset).osrP = 2 ∧ (stepWord 0x20000400 State.reset).osrT = 4 := by
  decide

/-- Vector O21's second command: the setting before the rejected rate stays. -/
theorem test_osrSetp_3000 : (stepWord 0x20000BB8 { State.reset with osrP := 2 }).osrP = 2 ∧
    (stepWord 0x20000BB8 { State.reset with osrP := 2 }).statusWord = 0x00000200#32 := by decide

/-- Vector O6. -/
theorem test_osrSett_256 : (stepWord 0x30000100 State.reset).osrT = 0 ∧ (stepWord 0x30000100 State.reset).osrP = 4 := by
  decide

/-- Vector O18: two bits of `rate[12:8]` set. -/
theorem test_osrSett_768 : (stepWord 0x30000300 State.reset).osrT = 4 ∧ (stepWord 0x30000300 State.reset).err = .eRate := by
  decide

/-- Vector V1, with the default parameters as a premise; the wait is the shortest one. -/
theorem test_convP_ok (h : Config.params = Params.recommended) :
    (stepWord 0x40000000 { withBus [] [.ok ()] [.ok ⟨0x8A, 0xA2, 0x1A⟩] with sleeps := ⟨[0], 0⟩ }).trace =
      [.commandWrite 0x48 (.ok ()), .sleep 9100 9100, .blockRead 0x00 (.ok ⟨0x8A, 0xA2, 0x1A⟩)] ∧
    (stepWord 0x40000000 (withBus [] [.ok ()] [.ok ⟨0x8A, 0xA2, 0x1A⟩])).rawP.toNat = 9085466 := by
  refine ⟨?_, by decide⟩
  have e : (stepWord 0x40000000 { withBus [] [.ok ()] [.ok ⟨0x8A, 0xA2, 0x1A⟩] with sleeps := ⟨[0], 0⟩ }).trace =
      [.commandWrite Config.params.cmdP[4] (.ok ()), .sleep Config.params.delayUs[4] (settleTime Config.params.delayUs[4] 0),
        .blockRead Config.params.adcReg (.ok ⟨0x8A, 0xA2, 0x1A⟩)] := rfl
  rw [e, h]
  decide

/-- Vector V7: the old sample is discarded although the new conversion's write failed; the other channel is untouched. -/
theorem test_convP_discards :
    (stepWord 0x40000000 { sampled with writes := ⟨[.ioError], 0⟩ }).statusWord = 0x0000030A#32 := by decide

/-- Vector V4's sample: all ones is an ordinary sample. -/
theorem test_convT_ok : (stepWord 0x50000000 (withBus [] [.ok ()] [.ok ⟨0xFF, 0xFF, 0xFF⟩])).rawT.toNat = 16777215 ∧
    (stepWord 0x50000000 (withBus [] [.ok ()] [.ok ⟨0xFF, 0xFF, 0xFF⟩])).statusWord = 0x00000008#32 := by decide

/-- Vector V6: the block read fails. -/
theorem test_convT_ioError : (stepWord 0x50000000 (withBus [] [.ok ()] [.ioError])).statusWord = 0x00000300#32 := by decide

/-- Vector Q4. -/
theorem test_comp_ok : (stepWord 0x60000000 sampled).temp = 0x000007D7#32 ∧
    (stepWord 0x60000000 sampled).press = 0x000186A9#32 ∧
    (stepWord 0x60000000 sampled).statusWord = 0x00000012#32 := by decide

/-- Vector Q3: E_NOCAL is tested first and the samples are kept. -/
theorem test_comp_noCal : (stepWord 0x60000000 { sampled with calValid := false }).statusWord = 0x0000060C#32 := by decide

/-- Vector E16: an illegal word, not E_NOCAL. -/
theorem test_illegal_word : (stepWord 0x60000400 State.reset).statusWord = 0x00000400#32 := by decide

/-! ### Functions of the spec -/

/-- Vectors K1, K6, K5, K8 and two of the single-word images. -/
theorem test_crcRegister :
    [crcRegister imageAN, crcRegister imageDS, crcRegister #v[0, 0, 0, 0, 0, 0, 0x13, 0],
      crcRegister #v[0, 0, 0, 0, 0, 0, 1, 0xF], crcRegister #v[1, 0, 0, 0, 0, 0, 0, 0],
      crcRegister #v[0, 0, 0, 0, 0, 0, 0, 0x8000]] =
    [0xB000#16, 0xC000#16, 0#16, 0xF000#16, 0x8000#16, 0xE000#16] := by decide +kernel

/-- Vectors K2, K3, K4, K9 and K12. -/
theorem test_validImage :
    [validImage (imageAN.set 7 0x4546), validImage (Vector.replicate 8 0), validImage (Vector.replicate 8 0xFFFF),
      validImage #v[0, 0, 0, 0, 0, 0, 0, 0xF0], validImage (imageDS.set 7 0xAB8C)] =
    [false, false, false, false, true] := by decide +kernel

/-- Vectors M1, M3 (floor against truncation), M6, M7 (the second threshold), M8, M10 and M14. -/
theorem test_compensate :
    [compensate (compInOf 8569150 9085466 constsDS), compensate (compInOf 8566783 9085466 constsDS),
      compensate (compInOf 7529764 8000000 constsDS), compensate (compInOf 7529763 8000000 constsDS),
      compensate (compInOf 7000000 8000000 constsDS),
      compensate (compInOf 0 16777215 ⟨65535, 65535, 65535, 65535, 65535, 65535⟩),
      compensate (compInOf 16777215 0 ⟨0, 65535, 0, 65535, 0, 65535⟩)] =
    [(2007, 100009), (1999, 99993), (-2000, 73136), (-2001, 73136), (-4431, 68008), (-260137, -22700801),
      (133069, -393210)] := by decide

/-- Vectors M8 and M10 on the 64-bit datapath. -/
theorem test_datapath64 :
    [(temperature64 (accInOf 7000000 8000000 constsDS)).toInt, (pressure64 (accInOf 7000000 8000000 constsDS)).toInt,
      (pressure64 (accInOf 0 16777215 ⟨65535, 65535, 65535, 65535, 65535, 65535⟩)).toInt] =
    [-4431, 68008, -22700801] := by decide

/-! ### The host side -/

/-- CONV.P in its wait, started with a valid sample: STATUS shows it, with BUSY (30_encoding.md R56). -/
def waiting : State :=
  { sampled with seq := .convWait .pressure, rawPValid := false, heldValid := true }

theorem test_busy_status : hostValue 0x1 waiting = some 0x0000000F#32 ∧ hostValue 0xA waiting = some 9085466#32 := by decide

theorem test_reset_abandons : (after (step { waiting with inputs := [.reset, .read 0x1] })).statusWord = 0#32 ∧
    (after (step { waiting with inputs := [.reset, .read 0x1] })).inputs = [.read 0x1] := by decide

theorem test_busy_write_waits :
    (after (step { waiting with inputs := [.write cmdAddr 0x60000000#32] })).inputs = [.write cmdAddr 0x60000000#32] := by
  decide

/-! ### States that meet the statements' hypotheses -/

theorem witness_DecodeOfEncodeIsIdentity : (Instr.osrSetp 65535).wellFormed = true := by decide

theorem witness_EncodeOfDecodeIsIdentity : decode 0x3000FFFF#32 = .ok (.osrSett 65535) := by decide

theorem witness_IllegalWordsEndWithEIllegal :
    decode 0x10000001#32 = .error .operandNonzero ∧
    { State.reset with inputs := [.write cmdAddr 0x10000001#32] }.busy = false ∧
    { State.reset with inputs := [.post cmdAddr 0x10000001#32] }.busy = false := by decide

theorem witness_StepRunsTheDecodedCommand :
    { State.reset with inputs := [.write cmdAddr 0x40000000#32, .reset] }.busy = false ∧
    decode 0x40000000#32 = .ok .convP ∧ decode (BitVec.ofNat 32 (0x60000000 % 2 ^ 32)) = .ok .comp := by decide

theorem witness_BusyPortHoldsTheWrite :
    { waiting with inputs := [.write cmdAddr 0x60000000#32] }.busy = true ∧
    { waiting with inputs := [.post cmdAddr 0x60000000#32] }.busy = true := by decide

theorem witness_WritesElsewhereAreIgnored : (0x1 : HostAddr) ≠ cmdAddr ∧ (0xF : HostAddr) ≠ cmdAddr ∧
    { State.reset with inputs := [.write 0x1 0#32] }.inputs = .write 0x1 0#32 :: [] ∧
    { State.reset with inputs := [.post 0xF 0#32] }.inputs = .post 0xF 0#32 :: [] := by decide

/-- Host reads before, between and after the nine transitions. -/
def betweenReads : List HostInput := .read 0x1 :: (List.replicate 9 .elapse ++ [.read 0xF])

theorem witness_SequencerRefinesTheCommand :
    (answering imageAN).busy = false ∧ decode 0x10000000#32 = .ok .calLoad ∧
    (∀ a ∈ betweenReads, a = .elapse ∨ ∃ addr, a = .read addr) ∧ maxTicks ≤ betweenReads.count .elapse ∧
    exec .calLoad { answering imageAN with inputs := [] } =
      .next (after (exec .calLoad { answering imageAN with inputs := [] })) := by
  refine ⟨by decide, by decide, ?_, by decide, rfl⟩
  intro a ha
  simp [betweenReads] at ha
  rcases ha with rfl | rfl | rfl <;> simp

theorem witness_EveryCommandEnds : State.reset.busy = false := by decide

theorem witness_SetRate : State.reset.busy = false ∧ (∀ idx : Fin 5, 3000 ≠ 2 ^ (idx.val + 8)) ∧
    (∀ idx : Fin 5, 0 ≠ 2 ^ (idx.val + 8)) ∧ 65535 < 65536 := by decide

theorem witness_SingleBitErrorsAreDetected : validImage imageDS = true := by decide +kernel

theorem witness_ValidationPredicate : crc4 (Vector.replicate 8 0) = 0 := by decide +kernel

theorem witness_LowByteOfWordSevenIsMasked : (0xABFF#16).toNat / 256 = imageDS[7].toNat / 256 := by decide

theorem witness_CalLoadOutcomes_ok : (answering imageAN).busy = false ∧ (answering imageAN).calValid = false ∧
    (∀ i : Fin 8, (answering imageAN).words.nth Config.freeWord i.val = .ok imageAN[i]) ∧ validImage imageAN = true := by
  refine ⟨by decide, by decide, ?_, by decide +kernel⟩
  intro i
  fin_cases i <;> rfl

theorem witness_CalLoadOutcomes_integrity : (answering (Vector.replicate 8 0xFFFF)).busy = false ∧
    (∀ i : Fin 8, (answering (Vector.replicate 8 0xFFFF)).words.nth Config.freeWord i.val =
      .ok (Vector.replicate 8 0xFFFF : PromImage)[i]) ∧
    validImage (Vector.replicate 8 0xFFFF) = false := by
  refine ⟨by decide, ?_, by decide +kernel⟩
  intro i
  fin_cases i <;> rfl

/-- The first read failing, and the last one. -/
theorem witness_CalLoadOutcomes_io :
    (withBus [.ioError] [] []).words.nth Config.freeWord 0 = .ioError ∧
    (withBus ((imageAN.toList.take 7).map Answer.ok ++ [.ioError]) [] []).words.nth Config.freeWord 7 = .ioError ∧
    (∀ i : Fin 8, i < 7 → (withBus ((imageAN.toList.take 7).map Answer.ok ++ [.ioError]) [] []).words.nth
      Config.freeWord i.val = .ok imageAN[i]) := by
  refine ⟨rfl, rfl, ?_⟩
  intro i hi
  fin_cases i <;> first | rfl | exact absurd hi (by decide)

theorem witness_CalLoadOutcomes_state : sampled.busy = false ∧ sampled.calValid = true := by decide

theorem witness_Frames :
    exec .calLoad State.reset = .next (after (exec .calLoad State.reset)) ∧
    exec .convP State.reset = .next (after (exec .convP State.reset)) ∧
    exec .convT State.reset = .next (after (exec .convT State.reset)) ∧
    exec .comp State.reset = .next (after (exec .comp State.reset)) := ⟨rfl, rfl, rfl, rfl⟩

theorem witness_CalLoadFrame_error : (after (exec .calLoad sampled)).err ≠ .ok := by decide

theorem witness_CompFrame_error : (after (exec .comp State.reset)).err ≠ .ok := by decide

theorem witness_CalibrationIsImmutable : sampled.calValid = true ∧ SeqMatchesTrace sampled ∧
    { sampled with inputs := [.write cmdAddr 0x10000000#32] }.inputs.head? ≠ some .reset ∧
    step { sampled with inputs := [.write cmdAddr 0x10000000#32] } =
      .next (after (step { sampled with inputs := [.write cmdAddr 0x10000000#32] })) :=
  ⟨by decide, trivial, by decide, rfl⟩

theorem witness_ConvertOutcomes_ok : (withBus [] [.ok ()] [.ok ⟨1, 2, 3⟩]).busy = false ∧
    (withBus [] [.ok ()] [.ok ⟨1, 2, 3⟩]).nextWrite = .ok () ∧
    (withBus [] [.ok ()] [.ok ⟨1, 2, 3⟩]).nextBlock = .ok ⟨1, 2, 3⟩ := by decide

theorem witness_ConvertOutcomes_write : (withBus [] [.ioError] []).busy = false ∧
    (withBus [] [.ioError] []).nextWrite = .ioError := by decide

theorem witness_ConvertOutcomes_read : (withBus [] [.ok ()] [.ioError]).nextWrite = .ok () ∧
    (withBus [] [.ok ()] [.ioError]).nextBlock = .ioError := by decide

theorem witness_SettlingWaitRange : 600 ≤ 660 ∧ 10 * 660 ≤ 11 * 600 := by decide

/-- The stage-1 equations of the statement, for a temperature sample and the constants `ds`. -/
abbrev meetsStageOne (x : CompIn) (dT off sens t off2 sens2 tmp : Int) : Prop :=
  dT = x.rawTemp - 256 * x.c5 ∧ off = 65536 * x.c2 + Int.fdiv (x.c4 * dT) 128 ∧
  sens = 32768 * x.c1 + Int.fdiv (x.c3 * dT) 256 ∧ t = 2000 + Int.fdiv (x.c6 * dT) 8388608 ∧
  off2 = Int.fdiv (5 * ((t - 2000) * (t - 2000))) 2 ∧ sens2 = Int.fdiv off2 2 ∧ tmp = (t + 1500) * (t + 1500)

/-- `T` of 2000, 1999, -1500 and -1501, where the three cases meet: the inputs of vectors M2, M3, M6 and M7. -/
theorem witness_CompensateFollowsTheStages :
    meetsStageOne (compInOf 8566784 9085466 constsDS) 0 2419851264 1314881536 2000 0 0 12250000 ∧
    meetsStageOne (compInOf 8566783 9085466 constsDS) (-1) 2419851082 1314881444 1999 2 1 12243001 ∧
    meetsStageOne (compInOf 7529764 8000000 constsDS) (-1037020) 2231227048 1220427647 (-1500) 30625000 15312500 0 ∧
    meetsStageOne (compInOf 7529763 8000000 constsDS) (-1037021) 2231226866 1220427556 (-1501) 30642502 15321251 1 := by
  decide

theorem witness_ReferencePoint : (compInOf 8566784 9085466 constsDS).rawTemp = (compInOf 8566784 9085466 constsDS).c5 * 256 := by
  decide

theorem witness_CompOutcomes : sampled.busy = false ∧ sampled.calValid = true ∧ sampled.rawTValid = true ∧
    sampled.rawPValid = true ∧ State.reset.calValid = false ∧ { sampled with rawTValid := false }.calValid = true ∧
    { sampled with rawPValid := false }.rawTValid = true := by decide

/-- As `sampled`, with another setting and an earlier reading. -/
def sampledOther : State := { sampled with osrP := 0, outValid := true, temp := 7 }

theorem witness_CompIsPure : sampled.busy = false ∧ sampledOther.busy = false ∧ sampled.rawT = sampledOther.rawT ∧
    sampled.rawP = sampledOther.rawP ∧ sampled.calib = sampledOther.calib ∧
    exec .comp sampled = .next (after (exec .comp sampled)) ∧
    exec .comp sampledOther = .next (after (exec .comp sampledOther)) ∧ (after (exec .comp sampled)).err = .ok ∧
    (after (exec .comp sampledOther)).err = .ok :=
  ⟨by decide, by decide, by decide, by decide, by decide, rfl, rfl, by decide, by decide⟩

theorem witness_ErrorsArePrecise : State.reset.busy = false ∧
    (after (exec .convP (withBus [] [.ioError] []))).err ≠ .ok ∧
    (after (exec .convT (withBus [] [.ok ()] [.ioError]))).err ≠ .ok := by decide

theorem witness_TraceOnlyGrows :
    { waiting with inputs := [.reset] }.inputs.head? = some .reset ∧
    { waiting with inputs := [.read 0x1] }.inputs.head? = some (.read 0x1) ∧
    step { waiting with inputs := [.reset] } = .next (after (step { waiting with inputs := [.reset] })) ∧
    step { waiting with inputs := [.read 0x1] } = .next (after (step { waiting with inputs := [.read 0x1] })) :=
  ⟨by decide, by decide, rfl, rfl⟩

theorem witness_StepKeepsTheInvariant : Inv { State.reset with inputs := [.write cmdAddr 0x40000000#32] } ∧
    step { State.reset with inputs := [.write cmdAddr 0x40000000#32] } =
      .next (after (step { State.reset with inputs := [.write cmdAddr 0x40000000#32] })) := by
  refine ⟨⟨?_, trivial, ?_, ?_, ?_⟩, rfl⟩
  · intro pre reg a post h
    cases pre <;> cases h
  · intro h
    cases h
  · intro h
    cases h
  · intro h
    cases h

theorem witness_StepKeepsTheReadingInRange :
    ReadingInRange { sampled with temp := 2007, press := 100009, outValid := true } ∧
    step { sampled with temp := 2007, press := 100009, outValid := true } =
      .next (after (step { sampled with temp := 2007, press := 100009, outValid := true })) := by
  refine ⟨?_, rfl⟩
  intro _
  decide

/-- Every address, with every register holding a value. -/
theorem witness_HostRegisterMap : ∀ a : HostAddr,
    (hostValue a { sampled with outValid := true, inputs := [.read a] }).isSome = true := by decide

theorem witness_BusyReadsShowTheStateBefore : sampled.busy = false ∧
    (ticks 0 (startInstr .convP sampled)).busy = true ∧
    (ticks 1 (startInstr .convT { sampled with writes := ⟨[.ok ()], 0⟩ })).busy = true ∧
    (ticks 0 (startInstr .comp sampled)).busy = true ∧ (ticks 0 (startInstr .calLoad State.reset)).busy = true := by
  decide

theorem witness_ResetAbandonsTheCommand : { waiting with inputs := [.reset, .elapse] }.inputs = .reset :: [.elapse] := by
  decide

/-- Calibrated, two command writes accepted, two blocks. -/
def cycling (first second : Block) : State :=
  { State.reset with
    calib := constsDS
    calValid := true
    writes := ⟨[.ok (), .ok ()], 0⟩
    blocks := ⟨[.ok first, .ok second], 0⟩ }

/-- Pressure first, as the bus answers it in program P1 of 95_test_vectors.md. -/
def pressureFirst : State := cycling ⟨0x8A, 0xA2, 0x1A⟩ ⟨0x82, 0xC1, 0x3E⟩

/-- Temperature first, the same answers for each channel. -/
def temperatureFirst : State := cycling ⟨0x82, 0xC1, 0x3E⟩ ⟨0x8A, 0xA2, 0x1A⟩

theorem witness_CycleProducesTheReading :
    pressureFirst.busy = false ∧ pressureFirst.calValid = true ∧ pressureFirst.nextWrite = .ok () ∧
    pressureFirst.writes.nth Config.freeWrite 1 = .ok () ∧ pressureFirst.nextBlock = .ok ⟨0x8A, 0xA2, 0x1A⟩ ∧
    pressureFirst.blocks.nth Config.freeBlock 1 = .ok ⟨0x82, 0xC1, 0x3E⟩ ∧
    temperatureFirst.busy = false ∧ temperatureFirst.calValid = true ∧ temperatureFirst.calib = pressureFirst.calib ∧
    temperatureFirst.nextWrite = .ok () ∧ temperatureFirst.writes.nth Config.freeWrite 1 = .ok () ∧
    temperatureFirst.nextBlock = .ok ⟨0x82, 0xC1, 0x3E⟩ ∧
    temperatureFirst.blocks.nth Config.freeBlock 1 = .ok ⟨0x8A, 0xA2, 0x1A⟩ := by decide

theorem witness_CommandsAreAbandonedAtAnError :
    exec .comp State.reset = .next (after (exec .comp State.reset)) ∧ (after (exec .comp State.reset)).err ≠ .ok :=
  ⟨rfl, by decide⟩

end Sys2Proof.Tests
end

section
/-! SUPPORT. Which word decodes to which command, and which to none (30_encoding.md R51 to R54, R63). -/

namespace Sys2Proof

/-! ### The fields make up the word -/

theorem commandWord_fields {w : Word} (hrsv : rsvField w = 0) : commandWord (opField w) (immField w) = w := by
  have hzero : w.toNat / 2 ^ 16 % 2 ^ 12 = 0 := by rw [← rsvField_toNat, hrsv]; rfl
  apply BitVec.eq_of_toNat_eq
  rw [commandWord_toNat, opField_toNat, immField_toNat]
  omega

theorem commandWord_eq_iff (op : BitVec 4) (imm : Half) (w : Word) :
    commandWord op imm = w ↔ rsvField w = 0 ∧ opField w = op ∧ immField w = imm := by
  constructor
  · rintro rfl
    exact ⟨rsvField_commandWord op imm, opField_commandWord op imm, immField_commandWord op imm⟩
  · rintro ⟨hrsv, rfl, rfl⟩
    exact commandWord_fields hrsv

theorem rsvField_eq_zero_iff (w : Word) : rsvField w = 0 ↔ w.toNat / 2 ^ 16 % 2 ^ 12 = 0 := by
  rw [← rsvField_toNat, ← BitVec.toNat_inj]; rfl

theorem immField_eq_zero_iff (w : Word) : immField w = 0 ↔ w.toNat % 2 ^ 16 = 0 := by
  rw [← immField_toNat, ← BitVec.toNat_inj]; rfl

/-! ### The decoder -/

theorem withoutOperand_eq_ok_iff (w : Word) (i j : Instr) :
    withoutOperand w i = .ok j ↔ immField w = 0 ∧ i = j := by
  unfold withoutOperand
  split <;> simp_all

theorem withoutOperand_eq_error_iff (w : Word) (i : Instr) :
    (∃ e, withoutOperand w i = .error e) ↔ immField w ≠ 0 := by
  unfold withoutOperand
  split <;> simp_all

theorem decode_of_rsvField_ne_zero {w : Word} (hrsv : rsvField w ≠ 0) :
    decode w = .error .reservedFieldNonzero := if_pos hrsv

/-- What the procedure of R63 answers once RSV is zero, by the value of OP. -/
theorem decode_cases {w : Word} (hrsv : rsvField w = 0) :
    (opField w = 1#4 ∧ decode w = withoutOperand w .calLoad) ∨
    (opField w = 2#4 ∧ decode w = .ok (.osrSetp (rateOperand w))) ∨
    (opField w = 3#4 ∧ decode w = .ok (.osrSett (rateOperand w))) ∨
    (opField w = 4#4 ∧ decode w = withoutOperand w .convP) ∨
    (opField w = 5#4 ∧ decode w = withoutOperand w .convT) ∨
    (opField w = 6#4 ∧ decode w = withoutOperand w .comp) ∨
    (((opField w).toNat = 0 ∨ 7 ≤ (opField w).toNat) ∧ decode w = .error .noSuchOperation) := by
  unfold decode
  rw [if_neg (not_not.mpr hrsv)]
  split <;> simp_all [← BitVec.toNat_inj]
  -- what is left is the last row: OP is none of 1 to 6
  omega

theorem encode_of_withoutOperand {w : Word} {op : BitVec 4} {i j : Instr} (hwf : i.wellFormed = true)
    (henc : encode i = commandWord op 0) (hrsv : rsvField w = 0) (hop : opField w = op)
    (h : withoutOperand w i = .ok j) : j.wellFormed = true ∧ encode j = w := by
  obtain ⟨himm, rfl⟩ := (withoutOperand_eq_ok_iff w i j).mp h
  exact ⟨hwf, henc.trans ((commandWord_eq_iff op 0 w).mpr ⟨hrsv, hop, himm⟩)⟩

theorem commandWord_rateOperand {w : Word} {op : BitVec 4} (hrsv : rsvField w = 0) (hop : opField w = op) :
    commandWord op (BitVec.ofNat 16 (rateOperand w)) = w := by
  rw [rateOperand, BitVec.ofNat_toNat, BitVec.setWidth_eq, ← hop, commandWord_fields hrsv]

theorem wellFormed_encode_of_decode {w : Word} {i : Instr} (h : decode w = .ok i) :
    i.wellFormed = true ∧ encode i = w := by
  by_cases hrsv : rsvField w = 0
  case neg => cases (decode_of_rsvField_ne_zero hrsv).symm.trans h
  rcases decode_cases hrsv with ⟨hop, hd⟩ | ⟨hop, hd⟩ | ⟨hop, hd⟩ | ⟨hop, hd⟩ | ⟨hop, hd⟩ | ⟨hop, hd⟩ | ⟨-, hd⟩ <;>
    rw [hd] at h
  · exact encode_of_withoutOperand rfl rfl hrsv hop h
  · cases h
    exact ⟨decide_eq_true (immField w).isLt, commandWord_rateOperand hrsv hop⟩
  · cases h
    exact ⟨decide_eq_true (immField w).isLt, commandWord_rateOperand hrsv hop⟩
  · exact encode_of_withoutOperand rfl rfl hrsv hop h
  · exact encode_of_withoutOperand rfl rfl hrsv hop h
  · exact encode_of_withoutOperand rfl rfl hrsv hop h
  · cases h

theorem decode_encode {i : Instr} (h : i.wellFormed = true) : decode (encode i) = .ok i := by
  have fields := fun op imm => (commandWord_eq_iff op imm _).mp rfl
  cases i with
  | osrSetp rate | osrSett rate =>
    have hrate : rate < 65536 := of_decide_eq_true h
    simp [decode, encode, rateOperand, fields, Nat.mod_eq_of_lt hrate]
  | calLoad | convP | convT | comp => simp [decode, encode, withoutOperand, fields]

/-- Decoding inverts encoding, in both directions. -/
theorem decode_eq_ok_iff (w : Word) (i : Instr) : decode w = .ok i ↔ i.wellFormed = true ∧ encode i = w :=
  ⟨wellFormed_encode_of_decode, fun ⟨hwf, hw⟩ => hw ▸ decode_encode hwf⟩

theorem decode_eq_error_iff (w : Word) : (∃ e, decode w = .error e) ↔
    (opField w).toNat = 0 ∨ 7 ≤ (opField w).toNat ∨ rsvField w ≠ 0 ∨
      (((opField w).toNat = 1 ∨ (opField w).toNat = 4 ∨ (opField w).toNat = 5 ∨ (opField w).toNat = 6) ∧
        immField w ≠ 0) := by
  by_cases hrsv : rsvField w = 0
  case neg => exact iff_of_true ⟨_, decode_of_rsvField_ne_zero hrsv⟩ (.inr (.inr (.inl hrsv)))
  rcases decode_cases hrsv with ⟨hop, hd⟩ | ⟨hop, hd⟩ | ⟨hop, hd⟩ | ⟨hop, hd⟩ | ⟨hop, hd⟩ | ⟨hop, hd⟩ | ⟨hop, hd⟩ <;>
    rw [hd]
  · simp [withoutOperand_eq_error_iff, hop, hrsv]
  · simp [hop, hrsv]
  · simp [hop, hrsv]
  · simp [withoutOperand_eq_error_iff, hop, hrsv]
  · simp [withoutOperand_eq_error_iff, hop, hrsv]
  · simp [withoutOperand_eq_error_iff, hop, hrsv]
  · exact iff_of_true ⟨_, rfl⟩ (hop.imp_right .inl)

/-! ### Match and mask (R63) -/

/-- The OSR mask keeps OP and RSV and clears IMM. -/
theorem and_highMask_eq_iff (w : Word) (op : BitVec 4) :
    w &&& 0xFFFF0000#32 = commandWord op 0 ↔ rsvField w = 0 ∧ opField w = op := by
  constructor
  · intro h
    have hr : rsvField (w &&& 0xFFFF0000#32) = rsvField w := by
      have hmask : (0xFFFF0000#32).extractLsb' 16 12 = BitVec.allOnes 12 := by decide
      simp only [rsvField, BitVec.extractLsb'_and, hmask, BitVec.and_allOnes]
    have ho : opField (w &&& 0xFFFF0000#32) = opField w := by
      have hmask : (0xFFFF0000#32).extractLsb' 28 4 = BitVec.allOnes 4 := by decide
      simp only [opField, BitVec.extractLsb'_and, hmask, BitVec.and_allOnes]
    rw [← hr, ← ho, h]
    exact ⟨rsvField_commandWord op 0, opField_commandWord op 0⟩
  · rintro ⟨hrsv, rfl⟩
    rw [← Laws.TableRow.commandWord_high (opField w) (immField w), commandWord_fields hrsv]

theorem and_fullMask_eq_iff (w m : Word) : w &&& 0xFFFFFFFF#32 = m ↔ m = w := by
  rw [show (0xFFFFFFFF#32 : Word) = BitVec.allOnes 32 from rfl, BitVec.and_allOnes, eq_comm]

theorem immField_eq_ofNat_iff (w : Word) (rate : Nat) :
    rate < 65536 ∧ immField w = BitVec.ofNat 16 rate ↔ rate = w.toNat % 65536 := by
  rw [← BitVec.toNat_inj, immField_toNat, BitVec.toNat_ofNat]
  omega

theorem rateWord_eq_iff_mask (w : Word) (op : BitVec 4) (rate : Nat) :
    rate < 65536 ∧ commandWord op (BitVec.ofNat 16 rate) = w ↔
      w &&& 0xFFFF0000#32 = commandWord op 0 ∧ rate = w.toNat % 65536 := by
  rw [commandWord_eq_iff, and_highMask_eq_iff, ← immField_eq_ofNat_iff]
  tauto

theorem decode_eq_osrSetp_iff (w : Word) (rate : Nat) : decode w = .ok (.osrSetp rate) ↔
    w &&& 0xFFFF0000#32 = 0x20000000#32 ∧ rate = w.toNat % 65536 := by
  rw [decode_eq_ok_iff, Instr.wellFormed, decide_eq_true_iff]
  exact rateWord_eq_iff_mask w 2 rate

theorem decode_eq_osrSett_iff (w : Word) (rate : Nat) : decode w = .ok (.osrSett rate) ↔
    w &&& 0xFFFF0000#32 = 0x30000000#32 ∧ rate = w.toNat % 65536 := by
  rw [decode_eq_ok_iff, Instr.wellFormed, decide_eq_true_iff]
  exact rateWord_eq_iff_mask w 3 rate

theorem decode_eq_ok_iff_fullMask {i : Instr} (hwf : i.wellFormed = true) (w : Word) :
    decode w = .ok i ↔ w &&& 0xFFFFFFFF#32 = encode i := by
  rw [decode_eq_ok_iff, and_fullMask_eq_iff]
  exact and_iff_right hwf

/-- Settles O3: decoding inverts encoding, and each mask picks out the fields its encoding fixes. -/
theorem decodingFollowsMatchAndMask : Obligations.DecodingFollowsMatchAndMask := fun w =>
  ⟨decode_eq_ok_iff_fullMask (i := .calLoad) rfl w, decode_eq_ok_iff_fullMask (i := .convP) rfl w,
    decode_eq_ok_iff_fullMask (i := .convT) rfl w, decode_eq_ok_iff_fullMask (i := .comp) rfl w,
    decode_eq_osrSetp_iff w, decode_eq_osrSett_iff w⟩

end Sys2Proof

namespace Sys2Proof.Machine

/-! ### A word at the idle command port (10_state.md R26) -/

section Idle

variable {s : State} {w : Word} {rest : List HostInput}

theorem step_of_write (hidle : s.busy = false) (h : s.inputs = .write cmdAddr w :: rest) :
    step s = acceptWord w (dropInput s) := by
  simp [step, h, hostAccess, hostWrite, hidle]

theorem step_of_post (hidle : s.busy = false) (h : s.inputs = .post cmdAddr w :: rest) :
    step s = .next (postWord w (dropInput s)) := by
  simp [step, h, hostAccess, hostPost, hidle]

theorem illegalWord_dropInput {a : HostInput} (hidle : s.busy = false) (h : s.inputs = a :: rest) :
    illegalWord (dropInput s) = { s with inputs := rest, err := .eIllegal } := by
  have hseq := (busy_eq_false_iff s).mp hidle
  simp [illegalWord, endCommand, dropInput, h, ← hseq]

end Idle

theorem acceptWord_of_error {w : Word} {e : Illegal} (h : decode w = .error e) (s : State) :
    acceptWord w s = .next (illegalWord s) := by
  simp [acceptWord, h]

theorem postWord_of_error {w : Word} {e : Illegal} (h : decode w = .error e) (s : State) :
    postWord w s = illegalWord s := by
  simp [postWord, h]

/-- Settles O4: the decoder's refusals in numbers, and the one effect of an illegal word at the idle port. -/
theorem illegalWordsEndWithEIllegal : Obligations.IllegalWordsEndWithEIllegal := by
  refine ⟨fun w => ?_, fun s w rest e hidle herr hinputs => ?_⟩
  · rw [decode_eq_error_iff, opField_toNat, Ne, rsvField_eq_zero_iff, Ne, immField_eq_zero_iff]
  · rcases hinputs with h | h
    · rw [step_of_write hidle h, acceptWord_of_error herr, illegalWord_dropInput hidle h]
    · rw [step_of_post hidle h, postWord_of_error herr, illegalWord_dropInput hidle h]

end Sys2Proof.Machine
end

section
/-! SUPPORT. What `resolve` answers and what OSR.SETP and OSR.SETT do (40_osr.md R68, R69, R70). -/

namespace Sys2Proof

theorem rateWord_toNat (op : BitVec 4) {rate : Nat} (h : rate < 65536) :
    (commandWord op (BitVec.ofNat 16 rate)).toNat = op.toNat * 2 ^ 28 + rate := by
  rw [commandWord_toNat, BitVec.toNat_ofNat, Nat.mod_eq_of_lt h]

end Sys2Proof

namespace Sys2Proof.Machine

/-! ### The lookup (R68) -/

theorem rateIndex_eq_some_iff (rate : Nat) (idx : Fin 5) : rateIndex rate = some idx ↔ rate = rateOf idx :=
  ⟨rateIndex_eq_some, fun h => h ▸ rateIndex_rateOf idx⟩

theorem rateIndex_eq_none_iff (rate : Nat) : rateIndex rate = none ↔ ∀ idx, rate ≠ rateOf idx := by
  simp only [Option.eq_none_iff_forall_ne_some, ne_eq, rateIndex_eq_some_iff]

theorem resolve_eq_some_iff (ch : Channel) (rate : Nat) (row : OsrRow) :
    resolve ch rate = some row ↔ ∃ idx, rate = rateOf idx ∧ row = osrRow ch idx := by
  simp only [resolve, Option.map_eq_some_iff, rateIndex_eq_some_iff, eq_comm (a := row)]

theorem resolve_eq_none_iff (ch : Channel) (rate : Nat) : resolve ch rate = none ↔ ∀ idx, rate ≠ rateOf idx := by
  rw [resolve, Option.map_eq_none_iff, rateIndex_eq_none_iff]

/-- Settles O12: `resolve` answers by the index of the rate, and the five indices are written out. -/
theorem resolveFindsExactlyTheFiveRates : Obligations.ResolveFindsExactlyTheFiveRates := by
  intro ch rate row
  rw [resolve_eq_some_iff, resolve_eq_none_iff]
  constructor
  · simp [Fin.exists_fin_succ, osrRow, rateOf_eq]
  · simp [Fin.forall_fin_succ, rateOf_eq]

/-! ### The two commands (R69, R70) -/

section Idle

variable {s : State} (hidle : s.busy = false)
include hidle

theorem endCommand_of_idle (code : ResultCode) : endCommand code s = { s with err := code } := by
  rw [endCommand, ← (busy_eq_false_iff s).mp hidle]

theorem runCommand_startOsr (ch : Channel) (rate : Nat) :
    runCommand (startOsr ch rate) s = startOsr ch rate s := by
  have hends : (startOsr ch rate s).seq = .idle := by
    obtain ⟨-, h⟩ | ⟨idx, -, h⟩ := startOsr_cases ch rate s <;> rw [h, endCommand_seq]
  rw [runCommand_idle _ hidle, finish, ticks_idle _ hends]

theorem runCommand_startOsr_of_rate (ch : Channel) (idx : Fin 5) :
    runCommand (startOsr ch (2 ^ (idx.val + 8))) s = { setOsr ch idx s with err := .ok } := by
  have hidle' : (setOsr ch idx s).busy = false := by
    rw [busy_eq_false_iff, setOsr_seq, ← busy_eq_false_iff, hidle]
  rw [runCommand_startOsr hidle, startOsr, ← rateOf_eq, rateIndex_rateOf]
  exact endCommand_of_idle hidle' .ok

theorem runCommand_startOsr_of_invalidRate (ch : Channel) {rate : Nat} (h : ∀ idx : Fin 5, rate ≠ 2 ^ (idx.val + 8)) :
    runCommand (startOsr ch rate) s = { s with err := .eRate } := by
  have hnone : rateIndex rate = none := rateIndex_eq_none fun idx => rateOf_eq idx ▸ h idx
  rw [runCommand_startOsr hidle, startOsr, hnone]
  exact endCommand_of_idle hidle .eRate

end Idle

/-- Settles O15: the rules of both channels' command, read for the pressure channel. -/
theorem setPressureRate : Obligations.SetPressureRate := by
  refine ⟨fun _ => rateWord_toNat 2, fun s idx hidle => ?_, fun s rate hidle hrate => ?_⟩ <;> rw [exec_eq_runCommand]
  · exact congrArg _ (runCommand_startOsr_of_rate hidle .pressure idx)
  · exact congrArg _ (runCommand_startOsr_of_invalidRate hidle .pressure hrate)

/-- Settles O16: the rules of both channels' command, read for the temperature channel. -/
theorem setTemperatureRate : Obligations.SetTemperatureRate := by
  refine ⟨fun _ => rateWord_toNat 3, fun s idx hidle => ?_, fun s rate hidle hrate => ?_⟩ <;> rw [exec_eq_runCommand]
  · exact congrArg _ (runCommand_startOsr_of_rate hidle .temperature idx)
  · exact congrArg _ (runCommand_startOsr_of_invalidRate hidle .temperature hrate)

end Sys2Proof.Machine
end

section
/-! SUPPORT. One iteration of the CRC register, and when an image is valid, in numbers (41_cal.md R74, R77, R78). -/

namespace Sys2Proof.Machine

/-! ### One iteration (R74) -/

theorem crcShift_of_msb {r : Half} (h : r.msb = true) : crcShift r = (r <<< 1) ^^^ crcPoly := if_pos h

theorem crcShift_of_not_msb {r : Half} (h : r.msb = false) : crcShift r = r <<< 1 := if_neg (by simp [h])

theorem shiftLeft_one_toNat (r : Half) : (r <<< 1).toNat = 2 * r.toNat % 65536 := by
  rw [BitVec.toNat_shiftLeft, Nat.shiftLeft_eq, pow_one, mul_comm]

/-- Settles O17: by the tested bit, which is set exactly from 32768 on; below it the double fits the register. -/
theorem crcIteration : Obligations.CrcIteration := by
  intro r
  have hmsb : r.msb = decide (32768 ≤ r.toNat) := BitVec.msb_eq_decide r
  by_cases h : 32768 ≤ r.toNat
  · rw [if_pos h, crcShift_of_msb (hmsb.trans (decide_eq_true h)), BitVec.toNat_xor, shiftLeft_one_toNat]
    rfl
  · rw [if_neg h, crcShift_of_not_msb (hmsb.trans (decide_eq_false h)), shiftLeft_one_toNat]
    omega

/-! ### The predicate (R77, R78) -/

theorem storedCrc_toNat (img : PromImage) : (storedCrc img).toNat = img[7].toNat % 16 := by
  rw [storedCrc, BitVec.extractLsb'_toNat, Nat.shiftRight_zero]

theorem validImage_iff (img : PromImage) :
    validImage img = true ↔ storedCrc img ≠ 0 ∧ crc4 img = storedCrc img := decide_eq_true_iff

theorem validImage_of_crc4_eq_zero {img : PromImage} (h : crc4 img = 0) : validImage img = false := by
  rw [← Bool.not_eq_true, validImage_iff, h]
  rintro ⟨hstored, heq⟩
  exact hstored heq.symm

/-- Settles O21: the predicate's two comparisons read as numbers, and a computed 0 that would have to be stored. -/
theorem validationPredicate : Obligations.ValidationPredicate := by
  refine fun img => ⟨?_, validImage_of_crc4_eq_zero⟩
  rw [validImage_iff, Ne, ← BitVec.toNat_inj, ← BitVec.toNat_inj, storedCrc_toNat]
  rfl

end Sys2Proof.Machine
end

section
/-! SUPPORT. The value of the sample that the three bytes of a block make (42_conv.md R87). -/

namespace Sys2Proof.Machine

theorem toNat_append_eq_add {m n : Nat} (x : BitVec m) (y : BitVec n) :
    (x ++ y).toNat = x.toNat * 2 ^ n + y.toNat := by
  rw [BitVec.toNat_append, ← Nat.shiftLeft_add_eq_or_of_lt y.isLt, Nat.shiftLeft_eq]

/-- The three shifted bytes do not overlap: the assembled sample is the bytes side by side. -/
theorem assembleSample_eq_append (b : Block) : assembleSample b = b.b0 ++ b.b1 ++ b.b2 := by
  rw [← BitVec.setWidth_eq (b.b0 ++ b.b1 ++ b.b2), BitVec.setWidth_append_append_eq_shiftLeft_setWidth_or,
    assembleSample]

theorem assembleSample_toNat (b : Block) :
    (assembleSample b).toNat = b.b0.toNat * 65536 + b.b1.toNat * 256 + b.b2.toNat := by
  rw [assembleSample_eq_append, toNat_append_eq_add, toNat_append_eq_add]
  omega

/-- Settles O31: the value is that of the bytes side by side, and a 24-bit sample holds no more. -/
theorem sampleAssembly : Obligations.SampleAssembly :=
  fun b => ⟨assembleSample_toNat b, Nat.le_of_lt_succ (assembleSample b).isLt⟩

end Sys2Proof.Machine
end

section
/-! SUPPORT. The stages of `compensate` as the rules write them, and what COMP can do (43_comp.md R91 to R96, R99). -/

namespace Sys2Proof.Machine

/-! ### The first order and the final pressure, each shift as a floor division (R91, R96) -/

theorem diffT_eq (x : CompIn) : diffT x = x.rawTemp - 256 * x.c5 := by
  rw [diffT, shl_eq, mul_comm]; rfl

theorem firstOrder_eq (x : CompIn) : firstOrder x =
    ⟨2000 + Int.fdiv (x.c6 * diffT x) 8388608, 65536 * x.c2 + Int.fdiv (x.c4 * diffT x) 128,
      32768 * x.c1 + Int.fdiv (x.c3 * diffT x) 256⟩ := by
  simp only [firstOrder, shl_eq, shr_eq_fdiv, mul_comm x.c1, mul_comm x.c2]; rfl

theorem finalPressure_eq (rawPressure off sens : Int) : finalPressure rawPressure off sens =
    Int.fdiv (Int.fdiv (rawPressure * sens) 2097152 - off) 32768 := by
  rw [finalPressure, shr_eq_fdiv, shr_eq_fdiv]; rfl

/-! ### The three cases of stage 2 (R92 to R94) -/

theorem lowTerms_eq (dT t : Int) : lowTerms dT t =
    ⟨Int.fdiv (dT * dT) 2147483648, Int.fdiv (5 * ((t - 2000) * (t - 2000))) 2,
      Int.fdiv (Int.fdiv (5 * ((t - 2000) * (t - 2000))) 2) 2⟩ := by
  simp only [lowTerms, shr_eq_fdiv, sq]; rfl

theorem corrections_of_reference {t : Int} (h : 2000 ≤ t) (dT : Int) : corrections dT t = ⟨0, 0, 0⟩ :=
  if_neg (not_lt.mpr h)

theorem corrections_of_low {t : Int} (hvery : -1500 ≤ t) (hlow : t < 2000) (dT : Int) :
    corrections dT t = lowTerms dT t := by
  rw [corrections, if_pos hlow, veryLowTerms, if_neg (not_lt.mpr hvery)]
  simp only [add_zero]

theorem corrections_of_veryLow {t : Int} (h : t < -1500) (dT : Int) : corrections dT t =
    ⟨(lowTerms dT t).t, (lowTerms dT t).off + 7 * ((t + 1500) * (t + 1500)),
      (lowTerms dT t).sens + Int.fdiv (11 * ((t + 1500) * (t + 1500))) 2⟩ := by
  rw [corrections, if_pos (by omega), veryLowTerms, if_pos h, shr_eq_fdiv, sq]; rfl

/-- The corrections are taken from the stage-1 terms, then the pressure is computed (R95, R96). -/
theorem compensate_eq {x : CompIn} {first c : Terms} (hfirst : firstOrder x = first)
    (hc : corrections (diffT x) first.t = c) : compensate x =
    (first.t - c.t,
      Int.fdiv (Int.fdiv (x.rawPressure * (first.sens - c.sens)) 2097152 - (first.off - c.off)) 32768) := by
  subst hfirst hc
  exact congrArg _ (finalPressure_eq _ _ _)

/-- Settles O32: the case of stage 2 that the stage-1 temperature selects, put into the final formula. -/
theorem compensateFollowsTheStages : Obligations.CompensateFollowsTheStages := by
  rintro x dT off sens t off2 sens2 tmp hdT hoff hsens ht rfl rfl rfl
  rw [← diffT_eq] at hdT
  subst hdT
  have hfirst : firstOrder x = ⟨t, off, sens⟩ := by rw [firstOrder_eq, ht, hoff, hsens]
  refine ⟨fun href => ?_, fun hvery hlow => ?_, fun hvery => ?_⟩
  · rw [compensate_eq hfirst (corrections_of_reference href _)]
    simp only [sub_zero]
  · rw [compensate_eq hfirst (corrections_of_low hvery hlow _), lowTerms_eq]
  · rw [compensate_eq hfirst (corrections_of_veryLow hvery _), lowTerms_eq]

/-! ### COMP (R99, R100) -/

/-- COMP_RUN overwrites the sequencer state it was entered in. -/
theorem finish_compRun (s : State) : finish { s with seq := .compRun } = compRun s := by
  rw [finish, maxTicks, ticks_succ, tick_compRun rfl]
  exact ticks_idle 8 rfl

/-- COMP at the idle port: one of its two refusals, or the reading is written. -/
theorem runCommand_startComp_cases {s : State} (hidle : s.busy = false) :
    (s.calValid = false ∧ runCommand startComp s = endCommand .eNoCal s) ∨
    (s.calValid = true ∧ (s.rawTValid = false ∨ s.rawPValid = false) ∧
      runCommand startComp s = endCommand .eNoSample s) ∨
    (s.calValid = true ∧ s.rawTValid = true ∧ s.rawPValid = true ∧ runCommand startComp s = compRun s) := by
  rw [runCommand_idle _ hidle]
  obtain ⟨hcal, h⟩ | ⟨hcal, hraw, h⟩ | ⟨hcal, ht, hp, h⟩ := startComp_cases s <;> rw [h]
  · exact .inl ⟨hcal, ticks_idle _ rfl⟩
  · exact .inr (.inl ⟨hcal, hraw, ticks_idle _ rfl⟩)
  · exact .inr (.inr ⟨hcal, ht, hp, finish_compRun s⟩)

/-- A COMP that ends with OK has made its one writing transition; both refusals end with an error. -/
theorem eq_compRun_of_exec_comp_ok {s t : State} (hidle : s.busy = false) (h : exec .comp s = .next t)
    (hok : t.err = .ok) : t = compRun s := by
  obtain rfl : runCommand startComp s = t := by
    rw [exec_eq_runCommand] at h
    exact Host.Outcome.next.inj h
  obtain ⟨-, h⟩ | ⟨-, -, h⟩ | ⟨-, -, -, h⟩ := runCommand_startComp_cases hidle
  · rw [h, endCommand_err] at hok
    cases hok
  · rw [h, endCommand_err] at hok
    cases hok
  · exact h

@[simp] theorem compRun_temp (s : State) : (compRun s).temp = BitVec.ofInt 32 (compensate s.compIn).1 := rfl

@[simp] theorem compRun_press (s : State) : (compRun s).press = BitVec.ofInt 32 (compensate s.compIn).2 := rfl

/-- Settles O41: both readings are `compensate` of the samples and the constants, and those are equal. -/
theorem compIsPure : Obligations.CompIsPure := by
  intro s s' t t' hidle hidle' hT hP hcalib h h' hok hok'
  have hin : s.compIn = s'.compIn := by rw [State.compIn, State.compIn, hT, hP, hcalib]
  obtain rfl := eq_compRun_of_exec_comp_ok hidle h hok
  obtain rfl := eq_compRun_of_exec_comp_ok hidle' h' hok'
  simp only [compRun_temp, compRun_press, hin, and_self]

end Sys2Proof.Machine
end

section
/-! SUPPORT. The round trip between a command and its word (30_encoding.md sections 1, 5 and 6). -/

namespace Sys2Proof

/-- Settles O1: `decode_encode`, the fields of a command word read back one by one. -/
theorem decodeOfEncodeIsIdentity : Obligations.DecodeOfEncodeIsIdentity := fun _ => decode_encode

/-- Settles O2: each row of the decoding procedure puts back together the word it took apart. -/
theorem encodeOfDecodeIsIdentity : Obligations.EncodeOfDecodeIsIdentity := fun _ _ => wellFormed_encode_of_decode

/-- Settles O5: each of the seven words is the encoding of its command. -/
theorem specWordsDecode : Obligations.SpecWordsDecode :=
  ⟨decode_encode (i := .calLoad) rfl, decode_encode (i := .osrSetp 1024) rfl, decode_encode (i := .osrSett 4096) rfl,
    decode_encode (i := .osrSett 3000) rfl, decode_encode (i := .convP) rfl, decode_encode (i := .convT) rfl,
    decode_encode (i := .comp) rfl⟩

end Sys2Proof
end

section
/-! SUPPORT. What one sequencer transition, one command and one step can do, and how a property is shown to be kept by
every step (10_state.md R26, R27). -/

namespace Sys2Proof.Machine

/-! ### One sequencer transition -/

/-- The outcomes of one sequencer transition from `s`, by the sequencer state and the bus's answer. -/
inductive Transition (s : State) : State → Prop where
  | idle (hseq : s.seq = .idle) : Transition s s
  | wordFailed (i : Fin 8) (hseq : s.seq = .calRd i) (hans : s.nextWord = .ioError) :
      Transition s (endCal .eIo (busReadWord (promOffset i) s))
  | wordRead (i : Fin 8) (w : Half) (hseq : s.seq = .calRd i) (hans : s.nextWord = .ok w) :
      Transition s { busReadWord (promOffset i) s with prom := s.prom.set i w, seq := afterCalRd i }
  | imageValid (hseq : s.seq = .calCrc) (hvalid : validImage s.prom = true) :
      Transition s (endCal .ok { s with crcReg := crcRegister s.prom, calib := constsOf s.prom, calValid := true })
  | imageInvalid (hseq : s.seq = .calCrc) (hvalid : validImage s.prom = false) :
      Transition s (endCal .eIntegrity { s with crcReg := crcRegister s.prom })
  | writeFailed (ch : Channel) (hseq : s.seq = .convCmd ch) (hans : s.nextWrite = .ioError) :
      Transition s (failConv ch (busWriteCommand (s.row ch).cmd s))
  | written (ch : Channel) (hseq : s.seq = .convCmd ch) (hans : s.nextWrite = .ok ()) :
      Transition s { busWriteCommand (s.row ch).cmd s with timer := 0, seq := .convWait ch }
  | waited (ch : Channel) (hseq : s.seq = .convWait ch) :
      Transition s { busSleep (s.row ch).delay s with seq := .convRd ch }
  | blockFailed (ch : Channel) (hseq : s.seq = .convRd ch) (hans : s.nextBlock = .ioError) :
      Transition s (failConv ch (busReadBlock Config.params.adcReg s))
  | blockRead (ch : Channel) (b : Block) (hseq : s.seq = .convRd ch) (hans : s.nextBlock = .ok b) :
      Transition s (endCommand .ok (putSample ch (assembleSample b) (busReadBlock Config.params.adcReg s)))
  | computed (hseq : s.seq = .compRun) : Transition s (compRun s)

theorem tick_transition (s : State) : Transition s (tick s) := by
  cases hseq : s.seq with
  | idle => rw [tick_idle hseq]; exact .idle hseq
  | calRd i =>
    rw [tick_calRd hseq]
    obtain ⟨hans, h⟩ | ⟨w, hans, h⟩ := calReadWord_cases i s <;> rw [h]
    · exact .wordFailed i hseq hans
    · exact .wordRead i w hseq hans
  | calCrc =>
    rw [tick_calCrc hseq]
    obtain ⟨hvalid, h⟩ | ⟨hvalid, h⟩ := calCheck_cases s <;> rw [h]
    · exact .imageValid hseq hvalid
    · exact .imageInvalid hseq hvalid
  | convCmd ch =>
    rw [tick_convCmd hseq]
    obtain ⟨hans, h⟩ | ⟨hans, h⟩ := convWrite_cases ch s <;> rw [h]
    · exact .writeFailed ch hseq hans
    · exact .written ch hseq hans
  | convWait ch => rw [tick_convWait hseq]; exact .waited ch hseq
  | convRd ch =>
    rw [tick_convRd hseq]
    obtain ⟨hans, h⟩ | ⟨b, hans, h⟩ := convRead_cases ch s <;> rw [h]
    · exact .blockFailed ch hseq hans
    · exact .blockRead ch b hseq hans
  | compRun => rw [tick_compRun hseq]; exact .computed hseq

theorem Transition.inputs_eq {s t : State} (h : Transition s t) : t.inputs = s.inputs := by
  cases h <;> simp [endCal, failConv, compRun]

@[simp] theorem tick_inputs (s : State) : (tick s).inputs = s.inputs := (tick_transition s).inputs_eq

/-- A property that every transition keeps holds after any number of them. -/
theorem ticks_keep {P : State → Prop} (htick : ∀ s, P s → P (tick s)) (n : Nat) {s : State} (h : P s) :
    P (ticks n s) := by
  induction n generalizing s with
  | zero => exact h
  | succ n ih => exact ih (htick s h)

/-! ### Accepting a word -/

/-- The outcomes of accepting a word in `s`; `refused` is an invalid rate, COMP without a precondition, or an illegal
word. -/
inductive Start (s : State) : State → Prop where
  | calRefused (hcal : s.calValid = true) : Start s (endCal .eState s)
  | calStarted (hcal : s.calValid = false) : Start s { s with seq := .calRd 0 }
  | refused (code : ResultCode) : Start s (endCommand code s)
  | rateSet (ch : Channel) (idx : Fin 5) : Start s (endCommand .ok (setOsr ch idx s))
  | convStarted (ch : Channel) : Start s (startConv ch s)
  | compStarted (hcal : s.calValid = true) (ht : s.rawTValid = true) (hp : s.rawPValid = true) :
      Start s { s with seq := .compRun }

theorem startCal_cases (s : State) :
    (s.calValid = true ∧ startCal s = endCal .eState s) ∨
    (s.calValid = false ∧ startCal s = { s with seq := .calRd 0 }) := by
  unfold startCal
  cases s.calValid
  · exact .inr ⟨rfl, rfl⟩
  · exact .inl ⟨rfl, rfl⟩

theorem startOsr_start (ch : Channel) (rate : Nat) (s : State) : Start s (startOsr ch rate s) := by
  obtain ⟨-, h⟩ | ⟨idx, -, h⟩ := startOsr_cases ch rate s <;> rw [h]
  · exact .refused _
  · exact .rateSet ch idx

theorem startInstr_start (i : Instr) (s : State) : Start s (startInstr i s) := by
  cases i with
  | calLoad =>
    obtain ⟨hcal, h⟩ | ⟨hcal, h⟩ := startCal_cases s <;> rw [startInstr, h]
    · exact .calRefused hcal
    · exact .calStarted hcal
  | osrSetp rate => exact startOsr_start .pressure rate s
  | osrSett rate => exact startOsr_start .temperature rate s
  | convP => exact .convStarted .pressure
  | convT => exact .convStarted .temperature
  | comp =>
    obtain ⟨-, h⟩ | ⟨-, -, h⟩ | ⟨hcal, ht, hp, h⟩ := startComp_cases s <;> rw [startInstr, h]
    · exact .refused _
    · exact .refused _
    · exact .compStarted hcal ht hp

/-! ### A whole command -/

theorem exec_of_idle (i : Instr) {s : State} (hidle : s.busy = false) :
    exec i s = .next (ticks maxTicks (startInstr i s)) := by
  rw [exec_eq_runCommand, runCommand_idle _ hidle, finish]

theorem eq_runCommand_of_exec {i : Instr} {s t : State} (h : exec i s = .next t) :
    t = runCommand (startInstr i) s := by
  rw [exec_eq_runCommand] at h
  exact (Host.Outcome.next.inj h).symm

/-! ### One step -/

section Access

variable {s : State} {rest : List HostInput}

theorem step_of_no_access (h : s.inputs = []) : step s = .next (tick s) := by simp [step, h]

theorem step_of_read {a : HostAddr} (h : s.inputs = .read a :: rest) :
    step s = .next (hostRead a (dropInput s)) := by
  simp [step, h, hostAccess]

theorem step_of_reset (h : s.inputs = .reset :: rest) : step s = .next (resetEngine (dropInput s)) := by
  simp [step, h, hostAccess]

theorem step_of_elapse (h : s.inputs = .elapse :: rest) : step s = .next (tick (dropInput s)) := by
  simp [step, h, hostAccess]

theorem step_of_held_write {w : Word} (hbusy : s.busy = true)
    (h : s.inputs = .write cmdAddr w :: rest ∨ s.inputs = .post cmdAddr w :: rest) : step s = .next (tick s) := by
  obtain h | h := h <;> simp [step, h, hostAccess, hostWrite, hostPost, hbusy]

theorem step_of_ignored_write {a : HostAddr} {w : Word} (ha : a ≠ cmdAddr)
    (h : s.inputs = .write a w :: rest ∨ s.inputs = .post a w :: rest) : step s = .next (dropInput s) := by
  obtain h | h := h <;> simp [step, h, hostAccess, hostWrite, hostPost, ha]

theorem dropInput_eq {a : HostInput} (h : s.inputs = a :: rest) : dropInput s = { s with inputs := rest } := by
  rw [dropInput, h, List.tail_cons]

end Access

theorem acceptWord_of_ok {w : Word} {i : Instr} (h : decode w = .ok i) (s : State) : acceptWord w s = exec i s := by
  simp [acceptWord, h]

theorem postWord_of_ok {w : Word} {i : Instr} (h : decode w = .ok i) (s : State) :
    postWord w s = startInstr i s := by
  simp [postWord, h]

/-- What a step can do: an access is dropped, read or held, the sequencer moves, the engine is reset, or a word is
accepted at the idle port. -/
inductive StepResult (s : State) : State → Prop where
  | held : StepResult s (tick s)
  | dropped : StepResult s (dropInput s)
  | elapsed : StepResult s (tick (dropInput s))
  | read (a : HostAddr) (hin : s.inputs.head? = some (.read a)) : StepResult s (hostRead a (dropInput s))
  | reset (hin : s.inputs.head? = some .reset) : StepResult s (resetEngine (dropInput s))
  | started {u : State} (hidle : s.busy = false) (hstart : Start (dropInput s) u) : StepResult s u
  | ran {u : State} (hidle : s.busy = false) (hstart : Start (dropInput s) u) : StepResult s (ticks maxTicks u)

theorem step_of_accepted_write {s : State} {w : Word} {rest : List HostInput} (hidle : s.busy = false)
    (h : s.inputs = .write cmdAddr w :: rest) : ∃ t, step s = .next t ∧ StepResult s t := by
  rw [step_of_write hidle h]
  cases hw : decode w with
  | ok i => exact ⟨_, (acceptWord_of_ok hw _).trans (exec_of_idle i hidle), .ran hidle (startInstr_start i _)⟩
  | error e => exact ⟨_, acceptWord_of_error hw _, .started hidle (.refused _)⟩

theorem step_of_accepted_post {s : State} {w : Word} {rest : List HostInput} (hidle : s.busy = false)
    (h : s.inputs = .post cmdAddr w :: rest) : ∃ t, step s = .next t ∧ StepResult s t := by
  rw [step_of_post hidle h]
  cases hw : decode w with
  | ok i => exact ⟨_, rfl, postWord_of_ok hw _ ▸ .started hidle (startInstr_start i _)⟩
  | error e => exact ⟨_, rfl, postWord_of_error hw _ ▸ .started hidle (.refused _)⟩

theorem step_result (s : State) : ∃ t, step s = .next t ∧ StepResult s t := by
  cases hin : s.inputs with
  | nil => exact ⟨_, step_of_no_access hin, .held⟩
  | cons a rest =>
    cases a with
    | read a => exact ⟨_, step_of_read hin, .read a (by rw [hin]; rfl)⟩
    | reset => exact ⟨_, step_of_reset hin, .reset (by rw [hin]; rfl)⟩
    | elapse => exact ⟨_, step_of_elapse hin, .elapsed⟩
    | write a w =>
      by_cases ha : a = cmdAddr
      case neg => exact ⟨_, step_of_ignored_write ha (.inl hin), .dropped⟩
      subst ha
      cases hbusy : s.busy with
      | true => exact ⟨_, step_of_held_write hbusy (.inl hin), .held⟩
      | false => exact step_of_accepted_write hbusy hin
    | post a w =>
      by_cases ha : a = cmdAddr
      case neg => exact ⟨_, step_of_ignored_write ha (.inr hin), .dropped⟩
      subst ha
      cases hbusy : s.busy with
      | true => exact ⟨_, step_of_held_write hbusy (.inr hin), .held⟩
      | false => exact step_of_accepted_post hbusy hin

theorem stepResult_of_step {s t : State} (h : step s = .next t) : StepResult s t := by
  obtain ⟨t', h', hres⟩ := step_result s
  cases h.symm.trans h'
  exact hres

/-- A property of states that each operation a step is made of keeps. -/
structure KeptByOperations (P : State → Prop) : Prop where
  drop : ∀ {s}, P s → P (dropInput s)
  tick : ∀ {s}, P s → P (tick s)
  start : ∀ {s}, s.busy = false → P s → ∀ {t}, Start s t → P t
  read : ∀ {s}, P s → ∀ a, P (hostRead a s)

/-- The induction over a step: only the reset input, which sets the registers, is left to show. -/
theorem KeptByOperations.step {P : State → Prop} (hP : KeptByOperations P) {s t : State} (hs : P s)
    (h : step s = .next t) (hreset : s.inputs.head? = some .reset → P (resetEngine (dropInput s))) : P t := by
  cases stepResult_of_step h with
  | held => exact hP.tick hs
  | dropped => exact hP.drop hs
  | elapsed => exact hP.tick (hP.drop hs)
  | read a hin => exact hP.read (hP.drop hs) a
  | reset hin => exact hreset hin
  | started hidle hstart => exact hP.start (s := dropInput s) hidle (hP.drop hs) hstart
  | ran hidle hstart =>
    exact ticks_keep (P := P) (fun _ => hP.tick) _ (hP.start (s := dropInput s) hidle (hP.drop hs) hstart)

/-! ### The statements about the step -/

/-- Settles O7: each of a step's results is a next state. -/
theorem everyStepAnswersNext : Obligations.EveryStepAnswersNext := by
  intro s
  obtain ⟨t, h, -⟩ := step_result s
  exact ⟨t, h⟩

/-- Settles O6: the accepted word is dropped from the accesses and its command runs; a presented word is such a word. -/
theorem stepRunsTheDecodedCommand : Obligations.StepRunsTheDecodedCommand := by
  refine ⟨fun s w rest i hidle hin hw => ?_, fun s w i hw => ?_⟩
  · rw [step_of_write hidle hin, acceptWord_of_ok hw, dropInput_eq hin]
  · exact (step_of_write (s := s.withFetchWord 32 w) rfl rfl).trans (acceptWord_of_ok hw _)

/-- Settles O8: the busy port holds both forms of the write, and a transition leaves the accesses alone. -/
theorem busyPortHoldsTheWrite : Obligations.BusyPortHoldsTheWrite := fun s _ _ hbusy hin =>
  ⟨step_of_held_write hbusy hin, tick_inputs s⟩

/-- Settles O9: both forms of the write are dropped, whatever BUSY is. -/
theorem writesElsewhereAreIgnored : Obligations.WritesElsewhereAreIgnored := by
  intro s a w rest ha hin
  rw [step_of_ignored_write ha hin]
  obtain h | h := hin <;> rw [dropInput_eq h]

end Sys2Proof.Machine
end

section
/-! SUPPORT. What every step keeps: the trace grows, the sequencer state matches it, valid constants stay, and with
these the engine's invariant (20_memory.md R50, 42_conv.md R86, R89, 10_state.md R15, R20, R21). -/

namespace Sys2Proof.Machine

/-! ### The settling wait (42_conv.md R86) -/

theorem waitInRange_settleTime (d e : Nat) : WaitInRange d (settleTime d e) := by
  have hexcess : e % (d / 10 + 1) < d / 10 + 1 := Nat.mod_lt _ (Nat.succ_pos _)
  rw [settleTime_eq]
  constructor <;> omega

/-- An excess within the range is its own remainder, so that drawing it gives exactly that wait. -/
theorem exists_settleTime_eq {d w : Nat} (h : WaitInRange d w) : ∃ e, settleTime d e = w := by
  obtain ⟨hlow, hhigh⟩ := h
  refine ⟨w - d, ?_⟩
  rw [settleTime_eq, Nat.mod_eq_of_lt (by omega)]
  omega

/-- Settles O30: the drawn excess is taken modulo one more than a tenth of the delay. -/
theorem settlingWaitRange : Obligations.SettlingWaitRange :=
  ⟨waitInRange_settleTime, fun _ _ hlow hhigh => exists_settleTime_eq ⟨hlow, hhigh⟩⟩

/-! ### The trace only grows -/

/-- The events of `t` are those of `s` and possibly more. -/
def TraceExtends (s t : State) : Prop := ∃ events, t.trace = s.trace ++ events

theorem traceExtends_of_eq {s t : State} (h : t.trace = s.trace) : TraceExtends s t := ⟨[], by simp [h]⟩

theorem TraceExtends.trans {s t u : State} (hst : TraceExtends s t) (htu : TraceExtends t u) : TraceExtends s u := by
  obtain ⟨ev, hst⟩ := hst
  obtain ⟨ev', htu⟩ := htu
  exact ⟨ev ++ ev', by rw [htu, hst, List.append_assoc]⟩

theorem Transition.traceExtends {s t : State} (h : Transition s t) : TraceExtends s t := by
  cases h with
  | idle | imageValid | imageInvalid | computed => exact traceExtends_of_eq rfl
  | wordFailed | wordRead | written | waited => exact ⟨_, rfl⟩
  | writeFailed ch | blockFailed ch | blockRead ch => cases ch <;> exact ⟨_, rfl⟩

theorem Start.trace_eq {s t : State} (h : Start s t) : t.trace = s.trace := by
  cases h with
  | rateSet ch | convStarted ch => cases ch <;> rfl
  | _ => rfl

theorem hostRead_eq (a : HostAddr) (s : State) :
    ∃ replies draws, hostRead a s = { s with replies := replies, readDraws := draws } := by
  obtain ⟨v, -, h⟩ | ⟨-, h⟩ := hostRead_cases a s
  · exact ⟨_, _, h⟩
  · exact ⟨_, _, h⟩

theorem traceExtends_kept (s : State) : KeptByOperations (TraceExtends s) where
  drop h := h
  tick h := h.trans (tick_transition _).traceExtends
  start _ h _ hstart := h.trans (traceExtends_of_eq hstart.trace_eq)
  read h a := h.trans (traceExtends_of_eq (hostRead_trace _ a))

theorem traceExtends_of_step {s t : State} (h : step s = .next t) : TraceExtends s t :=
  (traceExtends_kept s).step (traceExtends_of_eq rfl) h fun _ => traceExtends_of_eq rfl

theorem trace_of_step_reset_or_read {s t : State}
    (hin : s.inputs.head? = some .reset ∨ ∃ a, s.inputs.head? = some (.read a)) (h : step s = .next t) :
    t.trace = s.trace := by
  obtain hin | ⟨a, hin⟩ := hin <;> obtain ⟨rest, hin⟩ := List.head?_eq_some_iff.mp hin
  · cases (step_of_reset hin).symm.trans h
    rfl
  · cases (step_of_read hin).symm.trans h
    exact hostRead_trace _ a

theorem runCommand_startOsr_trace (ch : Channel) (rate : Nat) (s : State) :
    (runCommand (startOsr ch rate) s).trace = s.trace := by
  cases hbusy : s.busy with
  | true => rw [runCommand_busy _ hbusy]
  | false => rw [runCommand_startOsr hbusy, (startOsr_start ch rate s).trace_eq]

theorem runCommand_startComp_trace (s : State) : (runCommand startComp s).trace = s.trace := by
  cases hbusy : s.busy with
  | true => rw [runCommand_busy _ hbusy]
  | false => obtain ⟨-, h⟩ | ⟨-, -, h⟩ | ⟨-, -, -, h⟩ := runCommand_startComp_cases hbusy <;> rw [h] <;> rfl

/-- Settles O44: each operation of a step appends at most its event, and the silent ones have none. -/
theorem traceOnlyGrows : Obligations.TraceOnlyGrows := by
  refine ⟨fun s t => traceExtends_of_step, fun s t => trace_of_step_reset_or_read, fun i s t hi h => ?_⟩
  rw [eq_runCommand_of_exec h]
  obtain rfl | ⟨rate, rfl | rfl⟩ := hi
  · exact runCommand_startComp_trace s
  · exact runCommand_startOsr_trace .pressure rate s
  · exact runCommand_startOsr_trace .temperature rate s

/-! ### What the sequencer state says of the trace -/

@[simp] theorem row_cmd (s : State) (ch : Channel) : (s.row ch).cmd = commandOf ch (s.osr ch) := rfl

@[simp] theorem row_delay (s : State) (ch : Channel) : (s.row ch).delay = delayOf (s.osr ch) := rfl

section SeqMatchesTrace

variable {s : State}

theorem seqMatchesTrace_of_idle (h : s.seq = .idle) : SeqMatchesTrace s := by simp [SeqMatchesTrace, h]

theorem seqMatchesTrace_calRd {i : Fin 8} (h : s.seq = .calRd i) : SeqMatchesTrace s ↔
    s.calValid = false ∧ ∃ pre, s.trace = pre ++ imageReads s.prom i.val := by simp [SeqMatchesTrace, h]

theorem seqMatchesTrace_calCrc (h : s.seq = .calCrc) : SeqMatchesTrace s ↔
    s.calValid = false ∧ ∃ pre, s.trace = pre ++ imageReads s.prom 8 := by simp [SeqMatchesTrace, h]

theorem seqMatchesTrace_convCmd {ch : Channel} (h : s.seq = .convCmd ch) : SeqMatchesTrace s ↔
    s.rawValid ch = false := by simp [SeqMatchesTrace, h]

theorem seqMatchesTrace_convWait {ch : Channel} (h : s.seq = .convWait ch) : SeqMatchesTrace s ↔
    s.rawValid ch = false ∧ ∃ pre, s.trace = pre ++ [.commandWrite (commandOf ch (s.osr ch)) (.ok ())] := by
  simp [SeqMatchesTrace, h]

theorem seqMatchesTrace_convRd {ch : Channel} (h : s.seq = .convRd ch) : SeqMatchesTrace s ↔
    s.rawValid ch = false ∧ WaitInRange (delayOf (s.osr ch)) s.timer ∧ ∃ pre, s.trace =
      pre ++ [.commandWrite (commandOf ch (s.osr ch)) (.ok ()), .sleep (delayOf (s.osr ch)) s.timer] := by
  simp [SeqMatchesTrace, h]

theorem seqMatchesTrace_compRun (h : s.seq = .compRun) : SeqMatchesTrace s ↔
    s.calValid = true ∧ s.rawTValid = true ∧ s.rawPValid = true := by simp [SeqMatchesTrace, h]

/-- CAL_RD(i) goes to CAL_RD(i + 1) or CAL_CRC, and both say the same of the trace. -/
theorem seqMatchesTrace_afterCalRd {i : Fin 8} (h : s.seq = afterCalRd i) : SeqMatchesTrace s ↔
    s.calValid = false ∧ ∃ pre, s.trace = pre ++ imageReads s.prom (i.val + 1) := by
  unfold afterCalRd at h
  split at h
  · exact seqMatchesTrace_calRd h
  · rw [seqMatchesTrace_calCrc h, show i.val + 1 = 8 by omega]

end SeqMatchesTrace

theorem Transition.seqMatchesTrace {s t : State} (h : Transition s t) (hs : SeqMatchesTrace s) :
    SeqMatchesTrace t := by
  cases h with
  | idle => exact hs
  | wordRead i w hseq hans =>
    obtain ⟨hcal, pre, htrace⟩ := (seqMatchesTrace_calRd hseq).mp hs
    refine (seqMatchesTrace_afterCalRd rfl).mpr ⟨hcal, pre, ?_⟩
    simp [imageReads_succ, htrace, hans]
  | written ch hseq hans =>
    refine (seqMatchesTrace_convWait rfl).mpr ⟨?_, s.trace, ?_⟩
    · cases ch <;> exact (seqMatchesTrace_convCmd hseq).mp hs
    · cases ch <;> simp [hans, State.osr]
  | waited ch hseq =>
    obtain ⟨hraw, pre, htrace⟩ := (seqMatchesTrace_convWait hseq).mp hs
    refine (seqMatchesTrace_convRd rfl).mpr ⟨?_, ?_, pre, ?_⟩
    · cases ch <;> exact hraw
    · cases ch <;> exact waitInRange_settleTime _ _
    · cases ch <;> simp [htrace, State.osr]
  | wordFailed | imageValid | imageInvalid | writeFailed | blockFailed | blockRead | computed =>
    exact seqMatchesTrace_of_idle rfl

theorem Start.seqMatchesTrace {s t : State} (h : Start s t) : SeqMatchesTrace t := by
  cases h with
  | calStarted hcal => exact (seqMatchesTrace_calRd rfl).mpr ⟨hcal, s.trace, by simp [imageReads]⟩
  | convStarted ch => cases ch <;> exact (seqMatchesTrace_convCmd rfl).mpr rfl
  | compStarted hcal ht hp => exact (seqMatchesTrace_compRun rfl).mpr ⟨hcal, ht, hp⟩
  | calRefused | refused | rateSet => exact seqMatchesTrace_of_idle rfl

theorem seqMatchesTrace_hostRead (a : HostAddr) {s : State} (h : SeqMatchesTrace s) :
    SeqMatchesTrace (hostRead a s) := by
  obtain ⟨replies, draws, hread⟩ := hostRead_eq a s
  rw [hread]
  exact h

/-! ### Valid constants are immutable (10_state.md R14, R15) -/

/-- The constants are valid and are `k`, and the sequencer state is one that a run reaches. -/
def Calibrated (k : Consts) (s : State) : Prop := s.calValid = true ∧ s.calib = k ∧ SeqMatchesTrace s

/-- With CAL_VALID = 1 the sequencer is not inside CAL.LOAD, and no other transition touches the constants. -/
theorem Transition.calibrated {k : Consts} {s t : State} (h : Transition s t) (hs : Calibrated k s) :
    Calibrated k t := by
  obtain ⟨hvalid, hcalib, hmatch⟩ := hs
  refine ⟨?_, ?_, h.seqMatchesTrace hmatch⟩
  · cases h <;> simp [endCal, failConv, compRun, hvalid]
  · cases h with
    | imageValid hseq =>
      obtain ⟨hinvalid, -⟩ := (seqMatchesTrace_calCrc hseq).mp hmatch
      cases hvalid.symm.trans hinvalid
    | _ => simpa [endCal, failConv, compRun] using hcalib

theorem Start.calib_eq {s t : State} (h : Start s t) : t.calValid = s.calValid ∧ t.calib = s.calib := by
  cases h with
  | rateSet ch | convStarted ch => cases ch <;> exact ⟨rfl, rfl⟩
  | _ => exact ⟨rfl, rfl⟩

theorem calibrated_kept (k : Consts) : KeptByOperations (Calibrated k) where
  drop h := h
  tick h := (tick_transition _).calibrated h
  start _ h _ hstart := by
    obtain ⟨hvalid, hcalib, -⟩ := h
    exact ⟨hstart.calib_eq.1.trans hvalid, hstart.calib_eq.2.trans hcalib, hstart.seqMatchesTrace⟩
  read h a := by
    obtain ⟨hvalid, hcalib, hmatch⟩ := h
    exact ⟨by simp [hvalid], by simp [hcalib], seqMatchesTrace_hostRead a hmatch⟩

/-- Settles O26: every operation of a step but the reset keeps valid constants. -/
theorem calibrationIsImmutable : Obligations.CalibrationIsImmutable := by
  intro s t hvalid hmatch hreset h
  obtain ⟨hvalid', hcalib, -⟩ :=
    (calibrated_kept s.calib).step ⟨hvalid, rfl, hmatch⟩ h fun hin => absurd hin hreset
  exact ⟨hvalid', hcalib⟩

/-! ### Every block read is settled (20_memory.md R50, 42_conv.md R89) -/

/-- Only an appended block read has to be settled by the events before it. -/
theorem readsSettled_concat {trace : List BusEvent} {e : BusEvent} (h : ReadsSettled trace)
    (he : ∀ reg a, e = .blockRead reg a → reg = Config.params.adcReg ∧
      ∃ pre ch idx w, WaitInRange (delayOf idx) w ∧
        trace = pre ++ [.commandWrite (commandOf ch idx) (.ok ()), .sleep (delayOf idx) w]) :
    ReadsSettled (trace ++ [e]) := by
  intro pre reg a post heq
  obtain rfl | ⟨post', last, rfl⟩ := List.eq_nil_or_concat' post
  · obtain ⟨rfl, hlast⟩ := List.append_inj' heq rfl
    exact he reg a (List.singleton_inj.mp hlast)
  · rw [← List.cons_append, ← List.append_assoc] at heq
    exact h pre reg a post' (List.append_inj' heq rfl).1

theorem Transition.readsSettled {s t : State} (h : Transition s t) (hmatch : SeqMatchesTrace s)
    (hs : ReadsSettled s.trace) : ReadsSettled t.trace := by
  cases h with
  | idle | imageValid | imageInvalid | computed => exact hs
  | wordFailed | wordRead | written | waited => exact readsSettled_concat hs nofun
  | writeFailed ch => cases ch <;> exact readsSettled_concat hs nofun
  | blockFailed ch hseq | blockRead ch b hseq =>
    obtain ⟨-, hwait, pre, htrace⟩ := (seqMatchesTrace_convRd hseq).mp hmatch
    have hread : ReadsSettled (s.trace ++ [.blockRead Config.params.adcReg s.nextBlock]) := by
      refine readsSettled_concat hs fun reg a heq => ?_
      cases heq
      exact ⟨rfl, pre, ch, s.osr ch, s.timer, hwait, htrace⟩
    cases ch <;> exact hread

/-! ### Valid constants are those of a valid image (10_state.md R15) -/

theorem CalibSound.extend {s t : State} (hs : CalibSound s) (htrace : TraceExtends s t)
    (hvalid : t.calValid = s.calValid) (hcalib : t.calib = s.calib) : CalibSound t := by
  intro hv
  obtain ⟨pre, post, img, hin, himg, hk⟩ := hs (hvalid ▸ hv)
  obtain ⟨ev, htrace⟩ := htrace
  exact ⟨pre, post ++ ev, img, by rw [htrace, hin, List.append_assoc], himg, hcalib.trans hk⟩

theorem Transition.calibSound {s t : State} (h : Transition s t) (hmatch : SeqMatchesTrace s)
    (hs : CalibSound s) : CalibSound t := by
  have hext := h.traceExtends
  cases h with
  | imageValid hseq hvalid =>
    obtain ⟨-, pre, htrace⟩ := (seqMatchesTrace_calCrc hseq).mp hmatch
    exact fun _ => ⟨pre, [], s.prom, by simp [endCal, htrace], hvalid, rfl⟩
  | _ => exact hs.extend hext (by simp [endCal, failConv, compRun]) (by simp [endCal, failConv, compRun])

/-! ### A valid sample is what its conversion read (10_state.md R20, R21) -/

theorem SampleSound.extend {s t : State} {ch : Channel} (hs : SampleSound s ch) (htrace : TraceExtends s t)
    (hsample : t.shownRawValid ch = true → s.shownRawValid ch = true ∧ t.raw ch = s.raw ch) : SampleSound t ch := by
  intro hv
  obtain ⟨hv, hraw⟩ := hsample hv
  obtain ⟨pre, post, idx, w, b, hin, hb⟩ := hs hv
  obtain ⟨ev, htrace⟩ := htrace
  exact ⟨pre, post ++ ev, idx, w, b, by rw [htrace, hin, List.append_assoc], hraw.trans hb⟩

theorem sampleSound_conversion {s : State} {ch : Channel} {b : Block} (hseq : s.seq = .convRd ch)
    (hans : s.nextBlock = .ok b) (hmatch : SeqMatchesTrace s) :
    SampleSound (endCommand .ok (putSample ch (assembleSample b) (busReadBlock Config.params.adcReg s))) ch := by
  obtain ⟨-, -, pre, htrace⟩ := (seqMatchesTrace_convRd hseq).mp hmatch
  refine fun _ => ⟨pre, [], s.osr ch, s.timer, b, ?_, ?_⟩
  · cases ch <;> simp [htrace, hans, conversionEvents]
  · cases ch <;> rfl

@[simp] theorem converting_idle : Seq.idle.converting = none := rfl
@[simp] theorem converting_calRd (i : Fin 8) : (Seq.calRd i).converting = none := rfl
@[simp] theorem converting_calCrc : Seq.calCrc.converting = none := rfl
@[simp] theorem converting_convCmd (ch : Channel) : (Seq.convCmd ch).converting = some ch := rfl
@[simp] theorem converting_convWait (ch : Channel) : (Seq.convWait ch).converting = some ch := rfl
@[simp] theorem converting_convRd (ch : Channel) : (Seq.convRd ch).converting = some ch := rfl
@[simp] theorem converting_compRun : Seq.compRun.converting = none := rfl

@[simp] theorem converting_afterCalRd (i : Fin 8) : (afterCalRd i).converting = none := by
  unfold afterCalRd
  split <;> rfl

/-- After a transition a sample that shows as valid is the one that showed before, or the one just read. -/
theorem Transition.shownSample {s t : State} (h : Transition s t) {ch : Channel}
    (hv : t.shownRawValid ch = true) :
    (s.shownRawValid ch = true ∧ t.raw ch = s.raw ch) ∨
    (∃ b, s.seq = .convRd ch ∧ s.nextBlock = .ok b ∧
      t = endCommand .ok (putSample ch (assembleSample b) (busReadBlock Config.params.adcReg s))) := by
  cases h with
  | idle => exact .inl ⟨hv, rfl⟩
  | wordFailed i hseq | imageValid hseq | imageInvalid hseq =>
    left
    cases ch <;> simpa [State.shownRawValid, State.rawValid, State.raw, endCal, hseq] using hv
  | wordRead i w hseq =>
    left
    cases ch <;>
      simpa [State.shownRawValid, State.rawValid, State.raw, hseq] using hv
  | written ch' hseq | waited ch' hseq =>
    left
    cases ch <;> simpa [State.shownRawValid, State.rawValid, State.raw, hseq] using hv
  | writeFailed ch' hseq | blockFailed ch' hseq =>
    left
    cases ch <;> cases ch' <;>
      simp_all [State.shownRawValid, State.rawValid, State.raw, failConv]
  | blockRead ch' b hseq hans =>
    by_cases hch : ch = ch'
    · subst hch
      exact .inr ⟨b, hseq, hans, rfl⟩
    · left
      cases ch <;> cases ch' <;> simp_all [State.shownRawValid, State.rawValid, State.raw]
  | computed =>
    cases ch <;> simp [State.shownRawValid, State.rawValid, compRun] at hv

theorem Transition.sampleSound {s t : State} (h : Transition s t) (hmatch : SeqMatchesTrace s) {ch : Channel}
    (hs : SampleSound s ch) : SampleSound t ch := by
  intro hv
  obtain hkept | ⟨b, hseq, hans, rfl⟩ := h.shownSample hv
  · exact hs.extend h.traceExtends (fun _ => hkept) hv
  · exact sampleSound_conversion hseq hans hmatch hv

/-- No command's start makes a sample valid or touches its register. -/
theorem Start.shownSample {s t : State} (hidle : s.seq = .idle) (h : Start s t) {ch : Channel}
    (hv : t.shownRawValid ch = true) : s.shownRawValid ch = true ∧ t.raw ch = s.raw ch := by
  cases h with
  | convStarted ch' =>
    cases ch <;> cases ch' <;>
      simpa [State.shownRawValid, State.rawValid, State.raw, startConv, hidle] using hv
  | calRefused | calStarted | refused | rateSet | compStarted =>
    cases ch <;> simpa [State.shownRawValid, State.rawValid, State.raw, endCal, hidle] using hv

/-! ### The invariant -/

theorem Transition.inv {s t : State} (h : Transition s t) (hs : Inv s) : Inv t where
  reads := h.readsSettled hs.seq hs.reads
  seq := h.seqMatchesTrace hs.seq
  calib := h.calibSound hs.seq hs.calib
  pressure := h.sampleSound hs.seq hs.pressure
  temperature := h.sampleSound hs.seq hs.temperature

theorem Start.inv {s t : State} (h : Start s t) (hidle : s.busy = false) (hs : Inv s) : Inv t where
  reads := h.trace_eq ▸ hs.reads
  seq := h.seqMatchesTrace
  calib := hs.calib.extend (traceExtends_of_eq h.trace_eq) h.calib_eq.1 h.calib_eq.2
  pressure := hs.pressure.extend (traceExtends_of_eq h.trace_eq) (h.shownSample ((busy_eq_false_iff s).mp hidle))
  temperature := hs.temperature.extend (traceExtends_of_eq h.trace_eq) (h.shownSample ((busy_eq_false_iff s).mp hidle))

/-- No part of the invariant speaks of the host's side. -/
theorem Inv.hostSide {s : State} (h : Inv s) (inputs : List HostInput) (replies : List HostReply) (draws : Nat) :
    Inv { s with inputs := inputs, replies := replies, readDraws := draws } :=
  ⟨h.reads, h.seq, h.calib, h.pressure, h.temperature⟩

theorem inv_of_nothing_valid {s : State} (hreads : ReadsSettled s.trace) (hidle : s.seq = .idle)
    (hcal : s.calValid = false) (hp : s.rawPValid = false) (ht : s.rawTValid = false) : Inv s where
  reads := hreads
  seq := seqMatchesTrace_of_idle hidle
  calib hv := by simp [hcal] at hv
  pressure hv := by simp [State.shownRawValid, State.rawValid, hidle, hp] at hv
  temperature hv := by simp [State.shownRawValid, State.rawValid, hidle, ht] at hv

theorem inv_kept : KeptByOperations Inv where
  drop h := h.hostSide _ _ _
  tick h := (tick_transition _).inv h
  start hidle h _ hstart := hstart.inv hidle h
  read h a := by
    obtain ⟨replies, draws, hread⟩ := hostRead_eq a _
    rw [hread]
    exact h.hostSide _ _ _

theorem readsSettled_nil : ReadsSettled [] := by
  intro pre reg a post h
  simp at h

/-- Settles O45: there is no event, and no flag is set. -/
theorem invariantHoldsAtReset : Obligations.InvariantHoldsAtReset :=
  inv_of_nothing_valid readsSettled_nil rfl rfl rfl rfl

/-- Settles O46: every operation of a step keeps the invariant, and a reset leaves nothing valid. -/
theorem stepKeepsTheInvariant : Obligations.StepKeepsTheInvariant := fun _ _ hs h =>
  inv_kept.step hs h fun _ => inv_of_nothing_valid hs.reads rfl rfl rfl rfl

end Sys2Proof.Machine
end

section
/-! SUPPORT. Signs and bounds of the compensation (43_comp.md sections 1, 2 and 4) and of a valid reading (10_state.md
R22). -/

namespace Sys2Proof.Machine

/-! ### The correction (R92 to R95) -/

theorem lowTerms_nonneg (dT t : Int) : 0 ≤ (lowTerms dT t).t ∧ 0 ≤ (lowTerms dT t).off ∧ 0 ≤ (lowTerms dT t).sens := by
  have hoff : 0 ≤ shr (5 * (t - 2000) ^ 2) 1 := shr_nonneg 1 (by positivity)
  exact ⟨shr_nonneg 31 (mul_self_nonneg dT), hoff, shr_nonneg 1 hoff⟩

theorem veryLowTerms_nonneg (t : Int) : 0 ≤ (veryLowTerms t).off ∧ 0 ≤ (veryLowTerms t).sens := by
  unfold veryLowTerms
  split
  · exact ⟨by positivity, shr_nonneg 1 (by positivity)⟩
  · exact ⟨le_rfl, le_rfl⟩

theorem corrections_nonneg (dT t : Int) :
    0 ≤ (corrections dT t).t ∧ 0 ≤ (corrections dT t).off ∧ 0 ≤ (corrections dT t).sens := by
  obtain ⟨ht, hoff, hsens⟩ := lowTerms_nonneg dT t
  obtain ⟨hoff', hsens'⟩ := veryLowTerms_nonneg t
  unfold corrections
  split
  · exact ⟨ht, add_nonneg hoff hoff', add_nonneg hsens hsens'⟩
  · exact ⟨le_rfl, le_rfl, le_rfl⟩

/-- Settles O35: what is subtracted is never negative. -/
theorem correctionNeverRaises : Obligations.CorrectionNeverRaises := by
  intro x
  obtain ⟨ht, hoff, hsens⟩ := corrections_nonneg (diffT x) (firstOrder x).t
  exact ⟨Int.sub_le_self _ ht, Int.sub_le_self _ hoff, Int.sub_le_self _ hsens⟩

/-- Settles O34: at `dT = 0` the first order is the reference point, which is not below 2000. -/
theorem referencePoint : Obligations.ReferencePoint := by
  intro x hx
  have hdT : diffT x = 0 := by rw [diffT_eq, hx]; ring
  have hfirst : firstOrder x = ⟨2000, 65536 * x.c2, 32768 * x.c1⟩ := by
    simp only [firstOrder_eq, hdT, mul_zero, Int.zero_fdiv, add_zero]
  rw [compensate_eq hfirst (corrections_of_reference le_rfl _)]
  simp only [sub_zero]

/-! ### Bounds of the first order (43_comp.md section 2) -/

/-- The inputs are what registers of 24 and of 16 bits can hold. -/
structure RegisterRange (x : CompIn) : Prop where
  rawTemp : 0 ≤ x.rawTemp ∧ x.rawTemp ≤ 16777215
  rawPressure : 0 ≤ x.rawPressure ∧ x.rawPressure ≤ 16777215
  c1 : 0 ≤ x.c1 ∧ x.c1 ≤ 65535
  c2 : 0 ≤ x.c2 ∧ x.c2 ≤ 65535
  c3 : 0 ≤ x.c3 ∧ x.c3 ≤ 65535
  c4 : 0 ≤ x.c4 ∧ x.c4 ≤ 65535
  c5 : 0 ≤ x.c5 ∧ x.c5 ≤ 65535
  c6 : 0 ≤ x.c6 ∧ x.c6 ≤ 65535

theorem sample_range (v : Sample) : (0 : Int) ≤ v.toNat ∧ (v.toNat : Int) ≤ 16777215 := by
  have := v.isLt
  omega

theorem half_range (v : Half) : (0 : Int) ≤ v.toNat ∧ (v.toNat : Int) ≤ 65535 := by
  have := v.isLt
  omega

theorem compInOf_registerRange (rawT rawP : Sample) (k : Consts) : RegisterRange (compInOf rawT rawP k) :=
  ⟨sample_range _, sample_range _, half_range _, half_range _, half_range _, half_range _, half_range _, half_range _⟩

/-- Settles O33: the shifted product is negative exactly when the product is, and `c6` is not negative. -/
theorem stageTwoRunsBelowReference : Obligations.StageTwoRunsBelowReference := by
  intro rawT rawP k
  have hc6 : (0 : Int) ≤ k.c6.toNat := Int.natCast_nonneg _
  have hneg : (firstOrder (compInOf rawT rawP k)).t < 2000 ↔ (k.c6.toNat : Int) * diffT (compInOf rawT rawP k) < 0 := by
    rw [← shr_neg_iff 23]
    exact add_lt_iff_neg_left
  rw [hneg, mul_neg_iff]
  omega

theorem shr_bounds {x a b : Int} (n : Nat) (h : a ≤ x ∧ x ≤ b) : shr a n ≤ shr x n ∧ shr x n ≤ shr b n :=
  ⟨shr_mono n h.1, shr_mono n h.2⟩

/-- A factor from 0 to `m` against one of either sign. -/
theorem mul_bounds {c d m a b : Int} (hc : 0 ≤ c ∧ c ≤ m) (hd : a ≤ d ∧ d ≤ b) (ha : a ≤ 0) (hb : 0 ≤ b) :
    m * a ≤ c * d ∧ c * d ≤ m * b := by
  constructor <;> nlinarith

section Bounds

variable {x : CompIn} (hx : RegisterRange x)
include hx

theorem diffT_bounds : -16776960 ≤ diffT x ∧ diffT x ≤ 16777215 := by
  have := hx.rawTemp
  have := hx.c5
  rw [diffT_eq]
  omega

/-- A constant times `dT`. -/
theorem const_mul_diffT_bounds {c : Int} (hc : 0 ≤ c ∧ c ≤ 65535) :
    65535 * -16776960 ≤ c * diffT x ∧ c * diffT x ≤ 65535 * 16777215 :=
  mul_bounds hc (diffT_bounds hx) (by norm_num) (by norm_num)

theorem firstOrder_t_bounds : -129069 ≤ (firstOrder x).t ∧ (firstOrder x).t ≤ 133069 := by
  have h := shr_bounds 23 (const_mul_diffT_bounds hx hx.c6)
  norm_num [shr, firstOrder] at h ⊢
  omega

theorem firstOrder_off_bounds : -8589672450 ≤ (firstOrder x).off ∧ (firstOrder x).off ≤ 12884704768 := by
  have h := shr_bounds 7 (const_mul_diffT_bounds hx hx.c4)
  have := hx.c2
  norm_num [shr, shl, firstOrder] at h ⊢
  omega

theorem firstOrder_sens_bounds : -4294836225 ≤ (firstOrder x).sens ∧ (firstOrder x).sens ≤ 6442352384 := by
  have h := shr_bounds 8 (const_mul_diffT_bounds hx hx.c3)
  have := hx.c1
  norm_num [shr, shl, firstOrder] at h ⊢
  omega

/-- Stage 2 runs only for a negative `dT`, whose square is then the largest at the lower end. -/
theorem diffT_sq_bound (ht : (firstOrder x).t < 2000) : diffT x * diffT x ≤ 16776960 * 16776960 := by
  have hprod : x.c6 * diffT x < 0 := (shr_neg_iff 23).mp (add_lt_iff_neg_left.mp ht)
  have hneg : diffT x < 0 := neg_of_mul_neg_right hprod hx.c6.1
  obtain ⟨hlow, -⟩ := diffT_bounds hx
  nlinarith

end Bounds

/-! ### Bounds of the correction -/

theorem sq_sub_bound {t a : Int} (hlow : -129069 ≤ t) (hhigh : t ≤ a) : (t - a) ^ 2 ≤ (129069 + a) ^ 2 :=
  sq_le_sq' (by omega) (by omega)

theorem lowTerms_bounds {t : Int} (dT : Int) (hlow : -129069 ≤ t) (hhigh : t < 2000) :
    (lowTerms dT t).off ≤ 42947706902 ∧ (lowTerms dT t).sens ≤ 21473853451 := by
  have hsq := sq_sub_bound hlow hhigh.le
  have hoff : shr (5 * (t - 2000) ^ 2) 1 ≤ 42947706902 := shr_mono 1 (y := 5 * (129069 + 2000) ^ 2) (by omega)
  exact ⟨hoff, shr_mono 1 hoff⟩

theorem veryLowTerms_bounds {t : Int} (hlow : -129069 ≤ t) :
    (veryLowTerms t).off ≤ 113916948327 ∧ (veryLowTerms t).sens ≤ 89506173685 := by
  unfold veryLowTerms
  split
  next h =>
    have hsq := sq_sub_bound (a := -1500) hlow h.le
    rw [sub_neg_eq_add] at hsq
    exact ⟨show 7 * (t + 1500) ^ 2 ≤ _ by omega, shr_mono 1 (y := 11 * (129069 + -1500) ^ 2) (by omega)⟩
  · exact ⟨by norm_num, by norm_num⟩

theorem corrections_bounds {t : Int} (dT : Int) (hlow : -129069 ≤ t) :
    (corrections dT t).off ≤ 156864655229 ∧ (corrections dT t).sens ≤ 110980027136 := by
  unfold corrections
  split
  next h =>
    obtain ⟨hoff, hsens⟩ := lowTerms_bounds dT hlow h
    obtain ⟨hoff', hsens'⟩ := veryLowTerms_bounds hlow
    exact ⟨add_le_add hoff hoff', add_le_add hsens hsens'⟩
  · exact ⟨by norm_num, by norm_num⟩

/-! ### Bounds of the result -/

section Bounds

variable {x : CompIn} (hx : RegisterRange x)
include hx

theorem corrected_off_bounds : -165454327679 ≤ (corrected x).off ∧ (corrected x).off ≤ 12884704768 := by
  obtain ⟨hlow, hhigh⟩ := firstOrder_off_bounds hx
  obtain ⟨-, hnonneg, -⟩ := corrections_nonneg (diffT x) (firstOrder x).t
  obtain ⟨hc, -⟩ := corrections_bounds (diffT x) (firstOrder_t_bounds hx).1
  simp only [corrected]
  omega

theorem corrected_sens_bounds : -115274863361 ≤ (corrected x).sens ∧ (corrected x).sens ≤ 6442352384 := by
  obtain ⟨hlow, hhigh⟩ := firstOrder_sens_bounds hx
  obtain ⟨-, -, hnonneg⟩ := corrections_nonneg (diffT x) (firstOrder x).t
  obtain ⟨-, hc⟩ := corrections_bounds (diffT x) (firstOrder_t_bounds hx).1
  simp only [corrected]
  omega

theorem corrected_t_bounds : -260137 ≤ (corrected x).t ∧ (corrected x).t ≤ 133069 := by
  obtain ⟨hlow, hhigh⟩ := firstOrder_t_bounds hx
  obtain ⟨hnonneg, -, -⟩ := corrections_nonneg (diffT x) (firstOrder x).t
  have hc : (corrections (diffT x) (firstOrder x).t).t ≤ 131068 := by
    unfold corrections
    split
    next h => exact shr_mono 31 (diffT_sq_bound hx h)
    · norm_num
  simp only [corrected]
  omega

theorem rawPressure_mul_sens_bounds : 16777215 * -115274863361 ≤ x.rawPressure * (corrected x).sens ∧
    x.rawPressure * (corrected x).sens ≤ 16777215 * 6442352384 :=
  mul_bounds hx.rawPressure (corrected_sens_bounds hx) (by norm_num) (by norm_num)

theorem shr_product_bounds : -922198851921 ≤ shr (x.rawPressure * (corrected x).sens) 21 ∧
    shr (x.rawPressure * (corrected x).sens) 21 ≤ 51538816000 :=
  shr_bounds 21 (rawPressure_mul_sens_bounds hx)

theorem shr_product_sub_off_bounds :
    -935083556689 ≤ shr (x.rawPressure * (corrected x).sens) 21 - (corrected x).off ∧
    shr (x.rawPressure * (corrected x).sens) 21 - (corrected x).off ≤ 216993143679 := by
  obtain ⟨hlow, hhigh⟩ := shr_product_bounds hx
  obtain ⟨hlow', hhigh'⟩ := corrected_off_bounds hx
  omega

theorem compensate_snd_bounds : -28536486 ≤ (compensate x).2 ∧ (compensate x).2 ≤ 6622105 :=
  shr_bounds 15 (shr_product_sub_off_bounds hx)

end Bounds

/-- Settles O36: the bounds of each term, put through the final pressure's two shifts. -/
theorem outputsAreBounded : Obligations.OutputsAreBounded := by
  intro rawT rawP k
  have hx := compInOf_registerRange rawT rawP k
  obtain ⟨hlow, hhigh⟩ := corrected_t_bounds hx
  exact ⟨hlow, hhigh, compensate_snd_bounds hx⟩

/-! ### The reading in its registers (10_state.md R22) -/

theorem toInt_ofInt_of_bounds {v : Int} (hlow : -2 ^ 31 ≤ v) (hhigh : v < 2 ^ 31) : (BitVec.ofInt 32 v).toInt = v :=
  BitVec.toInt_ofInt_eq_self (by norm_num) hlow hhigh

theorem compensate_compIn_bounds (s : State) :
    -260137 ≤ (compensate s.compIn).1 ∧ (compensate s.compIn).1 ≤ 133069 ∧
    -28536486 ≤ (compensate s.compIn).2 ∧ (compensate s.compIn).2 ≤ 6622105 :=
  outputsAreBounded s.rawT s.rawP s.calib

theorem compRun_temp_toInt (s : State) : (compRun s).temp.toInt = (compensate s.compIn).1 := by
  obtain ⟨hlow, hhigh, -, -⟩ := compensate_compIn_bounds s
  exact toInt_ofInt_of_bounds (by omega) (by omega)

theorem compRun_press_toInt (s : State) : (compRun s).press.toInt = (compensate s.compIn).2 := by
  obtain ⟨-, -, hlow, hhigh⟩ := compensate_compIn_bounds s
  exact toInt_ofInt_of_bounds (by omega) (by omega)

theorem exec_comp_of_sampled {s : State} (hidle : s.busy = false) (hcal : s.calValid = true) (ht : s.rawTValid = true)
    (hp : s.rawPValid = true) : exec .comp s = .next (compRun s) := by
  rw [exec_eq_runCommand]
  obtain ⟨hcal', -⟩ | ⟨-, ht' | hp', -⟩ | ⟨-, -, -, h⟩ := runCommand_startComp_cases hidle
  · cases hcal.symm.trans hcal'
  · cases ht.symm.trans ht'
  · cases hp.symm.trans hp'
  · exact congrArg _ h

/-- Settles O40: both results are far inside 32 bits. -/
theorem readingIsExact : Obligations.ReadingIsExact := fun s hidle hcal ht hp =>
  ⟨compRun s, exec_comp_of_sampled hidle hcal ht hp, compRun_temp_toInt s, compRun_press_toInt s⟩

theorem ReadingInRange.of_eq {s t : State} (hs : ReadingInRange s) (hout : t.outValid = s.outValid)
    (htemp : t.temp = s.temp) (hpress : t.press = s.press) : ReadingInRange t := by
  rw [ReadingInRange, hout, htemp, hpress]
  exact hs

theorem readingInRange_compRun (s : State) : ReadingInRange (compRun s) := by
  intro _
  obtain ⟨htlow, hthigh, hplow, hphigh⟩ := compensate_compIn_bounds s
  rw [compRun_temp_toInt, compRun_press_toInt]
  omega

theorem Transition.readingInRange {s t : State} (h : Transition s t) (hs : ReadingInRange s) : ReadingInRange t := by
  cases h with
  | computed => exact readingInRange_compRun s
  | _ => exact hs.of_eq (by simp [endCal, failConv]) (by simp [endCal, failConv]) (by simp [endCal, failConv])

theorem Start.reading_eq {s t : State} (h : Start s t) :
    t.outValid = s.outValid ∧ t.temp = s.temp ∧ t.press = s.press := by
  cases h with
  | rateSet ch | convStarted ch => cases ch <;> exact ⟨rfl, rfl, rfl⟩
  | _ => exact ⟨rfl, rfl, rfl⟩

theorem readingInRange_kept : KeptByOperations ReadingInRange where
  drop h := h
  tick h := (tick_transition _).readingInRange h
  start _ h _ hstart := by
    obtain ⟨hout, htemp, hpress⟩ := hstart.reading_eq
    exact h.of_eq hout htemp hpress
  read h a := h.of_eq (hostRead_outValid _ a) (hostRead_temp _ a) (hostRead_press _ a)

/-- Settles O47: OUT_VALID is 0. -/
theorem readingInRangeAtReset : Obligations.ReadingInRangeAtReset := nofun

/-- Settles O48: only COMP_RUN writes the reading, and what it writes is `compensate`'s; a reset clears OUT_VALID. -/
theorem stepKeepsTheReadingInRange : Obligations.StepKeepsTheReadingInRange := fun _ _ hs h =>
  readingInRange_kept.step hs h fun _ => nofun

end Sys2Proof.Machine
end

section
/-! SUPPORT. The 64-bit datapath of 43_comp.md R97 step by step: each accumulator holds the integer of the same name,
because no sum or product that is shifted or compared leaves the 64-bit range. -/

namespace Sys2Proof.Machine

/-! ### Accumulators and integers -/

/-- The accumulator that holds an integer. -/
def accOf (v : Int) : Acc := BitVec.ofInt 64 v

/-- The integer is one of 64 bits in two's complement. -/
def Fits (v : Int) : Prop := -2 ^ 63 ≤ v ∧ v < 2 ^ 63

theorem accOf_toInt {v : Int} (h : Fits v) : (accOf v).toInt = v :=
  BitVec.toInt_ofInt_eq_self (by norm_num) h.1 h.2

theorem accOf_add (v w : Int) : accOf v + accOf w = accOf (v + w) := (BitVec.ofInt_add v w).symm

theorem accOf_mul (v w : Int) : accOf v * accOf w = accOf (v * w) := (BitVec.ofInt_mul v w).symm

theorem accOf_sub (v w : Int) : accOf v - accOf w = accOf (v - w) := by
  rw [BitVec.sub_eq_iff_eq_add, accOf_add, sub_add_cancel]

theorem accOf_shiftLeft (v : Int) (n : Nat) : accOf v <<< n = accOf (shl v n) := by
  have hpow : BitVec.twoPow 64 n = accOf (2 ^ n) := by
    rw [accOf, show (2 : Int) ^ n = ((2 ^ n : Nat) : Int) by norm_cast, BitVec.ofInt_natCast]
    exact BitVec.eq_of_toNat_eq (by simp [BitVec.toNat_twoPow])
  rw [BitVec.shiftLeft_eq_mul_twoPow, hpow, accOf_mul, shl_eq]

theorem accOf_sshiftRight {v : Int} (n : Nat) (h : Fits v) : (accOf v).sshiftRight n = accOf (shr v n) := by
  rw [← BitVec.ofInt_toInt (x := (accOf v).sshiftRight n), BitVec.toInt_sshiftRight, accOf_toInt h,
    Int.shiftRight_eq_div_pow, accOf, shr_eq]
  norm_cast

theorem accOf_slt {v w : Int} (hv : Fits v) (hw : Fits w) : (accOf v).slt (accOf w) = decide (v < w) := by
  rw [BitVec.slt_eq_decide, accOf_toInt hv, accOf_toInt hw]

theorem setWidth_eq_accOf {n : Nat} (v : BitVec n) : v.setWidth 64 = accOf v.toNat := by
  rw [accOf, BitVec.ofInt_natCast, BitVec.ofNat_toNat]

/-! ### Stage 1 -/

theorem fits_of_bounds {v a b : Int} (h : a ≤ v ∧ v ≤ b) (ha : -2 ^ 63 ≤ a) (hb : b < 2 ^ 63) : Fits v :=
  ⟨ha.trans h.1, h.2.trans_lt hb⟩

section Registers

variable (rawT rawP : Sample) (k : Consts)

theorem diffT64_eq : diffT64 (accInOf rawT rawP k) = accOf (diffT (compInOf rawT rawP k)) := by
  simp only [diffT64, accInOf, diffT, compInOf, setWidth_eq_accOf, accOf_shiftLeft, accOf_sub]

theorem const_mul_diffT64_sshiftRight {c : Half} (n : Nat) :
    (c.setWidth 64 * diffT64 (accInOf rawT rawP k)).sshiftRight n =
      accOf (shr (c.toNat * diffT (compInOf rawT rawP k)) n) := by
  have hbounds := const_mul_diffT_bounds (compInOf_registerRange rawT rawP k) (half_range c)
  rw [setWidth_eq_accOf, diffT64_eq, accOf_mul,
    accOf_sshiftRight n (fits_of_bounds hbounds (by norm_num) (by norm_num))]

theorem firstT64_eq : firstT64 (accInOf rawT rawP k) = accOf (firstOrder (compInOf rawT rawP k)).t :=
  (congrArg _ (const_mul_diffT64_sshiftRight rawT rawP k 23)).trans (accOf_add 2000 _)

theorem firstOff64_eq : firstOff64 (accInOf rawT rawP k) = accOf (firstOrder (compInOf rawT rawP k)).off := by
  have hc2 : (accInOf rawT rawP k).c2 <<< 16 = accOf (shl (compInOf rawT rawP k).c2 16) := by
    simp only [accInOf, compInOf, setWidth_eq_accOf, accOf_shiftLeft]
  exact (congrArg₂ _ hc2 (const_mul_diffT64_sshiftRight rawT rawP k 7)).trans (accOf_add _ _)

theorem firstSens64_eq : firstSens64 (accInOf rawT rawP k) = accOf (firstOrder (compInOf rawT rawP k)).sens := by
  have hc1 : (accInOf rawT rawP k).c1 <<< 15 = accOf (shl (compInOf rawT rawP k).c1 15) := by
    simp only [accInOf, compInOf, setWidth_eq_accOf, accOf_shiftLeft]
  exact (congrArg₂ _ hc1 (const_mul_diffT64_sshiftRight rawT rawP k 8)).trans (accOf_add _ _)

end Registers

/-! ### Stage 2 -/

theorem square64_accOf (t : Int) : square64 (accOf t) = accOf ((t - 2000) ^ 2) := by
  rw [square64, show 2000#64 = accOf 2000 from rfl, accOf_sub, accOf_mul, sq]

theorem tmp64_accOf (t : Int) : tmp64 (accOf t) = accOf ((t + 1500) ^ 2) := by
  rw [tmp64, show 1500#64 = accOf 1500 from rfl, accOf_add, accOf_mul, sq]

section Correction

variable {t : Int} (ht : -129069 ≤ t ∧ t ≤ 133069)
include ht

theorem accOf_slt_2000 : (accOf t).slt 2000#64 = decide (t < 2000) :=
  accOf_slt (w := 2000) ⟨by omega, by omega⟩ ⟨by norm_num, by norm_num⟩

theorem accOf_slt_neg_1500 : (accOf t).slt (-1500#64) = decide (t < -1500) :=
  accOf_slt (w := -1500) ⟨by omega, by omega⟩ ⟨by norm_num, by norm_num⟩

/-- The squares of stage 2 are small: `T` itself is far inside its bounds. -/
theorem five_mul_sq_bounds : 0 ≤ 5 * (t - 2000) ^ 2 ∧ 5 * (t - 2000) ^ 2 ≤ 5 * 131069 ^ 2 :=
  ⟨by positivity, by nlinarith⟩

theorem off64_low (dT : Int) : (5#64 * square64 (accOf t)).sshiftRight 1 = accOf (lowTerms dT t).off := by
  have hfits := fits_of_bounds (five_mul_sq_bounds ht) (by norm_num) (by norm_num)
  rw [square64_accOf, show 5#64 = accOf 5 from rfl, accOf_mul, accOf_sshiftRight 1 hfits, lowTerms]

theorem sens64_low (dT : Int) :
    ((5#64 * square64 (accOf t)).sshiftRight 1).sshiftRight 1 = accOf (lowTerms dT t).sens := by
  have hbounds : shr 0 1 ≤ (lowTerms dT t).off ∧ (lowTerms dT t).off ≤ shr (5 * 131069 ^ 2) 1 :=
    shr_bounds 1 (five_mul_sq_bounds ht)
  rw [off64_low ht dT, accOf_sshiftRight 1 (fits_of_bounds hbounds (by decide) (by decide)), lowTerms]

theorem sens64_veryLow : (11#64 * tmp64 (accOf t)).sshiftRight 1 = accOf (shr (11 * (t + 1500) ^ 2) 1) := by
  have hbounds : 0 ≤ 11 * (t + 1500) ^ 2 ∧ 11 * (t + 1500) ^ 2 ≤ 11 * 134569 ^ 2 := ⟨by positivity, by nlinarith⟩
  rw [tmp64_accOf, show 11#64 = accOf 11 from rfl, accOf_mul,
    accOf_sshiftRight 1 (fits_of_bounds hbounds (by norm_num) (by norm_num))]

theorem t2Of64_accOf {dT : Int} (hdT : -16776960 ≤ dT ∧ dT ≤ 16777215) :
    t2Of64 (accOf dT) (accOf t) = accOf (corrections dT t).t := by
  have hbounds : 0 ≤ dT * dT ∧ dT * dT ≤ 16777215 * 16777215 := ⟨mul_self_nonneg dT, by nlinarith⟩
  unfold t2Of64 corrections
  by_cases hlow : t < 2000
  · simp only [accOf_slt_2000 ht, hlow, decide_true, if_true, accOf_mul]
    exact accOf_sshiftRight 31 (fits_of_bounds hbounds (by norm_num) (by norm_num))
  · simp only [accOf_slt_2000 ht, hlow, decide_false, Bool.false_eq_true, if_false]
    rfl

theorem off2Of64_accOf (dT : Int) : off2Of64 (accOf t) = accOf (corrections dT t).off := by
  unfold off2Of64 corrections veryLowTerms
  rw [accOf_slt_2000 ht, accOf_slt_neg_1500 ht, off64_low ht dT, tmp64_accOf, show 7#64 = accOf 7 from rfl, accOf_mul,
    accOf_add]
  by_cases hlow : t < 2000
  · by_cases hvery : t < -1500
    · simp only [hlow, hvery, decide_true, if_true]
    · simp only [hlow, hvery, decide_true, decide_false, Bool.false_eq_true, if_true, if_false, add_zero]
  · simp only [hlow, decide_false, Bool.false_eq_true, if_false]
    rfl

theorem sens2Of64_accOf (dT : Int) : sens2Of64 (accOf t) = accOf (corrections dT t).sens := by
  unfold sens2Of64 corrections veryLowTerms
  rw [accOf_slt_2000 ht, accOf_slt_neg_1500 ht, sens64_low ht dT, sens64_veryLow ht, accOf_add]
  by_cases hlow : t < 2000
  · by_cases hvery : t < -1500
    · simp only [hlow, hvery, decide_true, if_true]
    · simp only [hlow, hvery, decide_true, decide_false, Bool.false_eq_true, if_true, if_false, add_zero]
  · simp only [hlow, decide_false, Bool.false_eq_true, if_false]
    rfl

end Correction

/-! ### The two results -/

section Registers

variable (rawT rawP : Sample) (k : Consts)

theorem temperature64_eq : temperature64 (accInOf rawT rawP k) = accOf (compensate (compInOf rawT rawP k)).1 := by
  have hx := compInOf_registerRange rawT rawP k
  rw [temperature64, diffT64_eq, firstT64_eq, t2Of64_accOf (firstOrder_t_bounds hx) (diffT_bounds hx), accOf_sub]
  rfl

theorem sens64_eq : firstSens64 (accInOf rawT rawP k) - sens2Of64 (firstT64 (accInOf rawT rawP k)) =
    accOf (corrected (compInOf rawT rawP k)).sens := by
  have ht := firstOrder_t_bounds (compInOf_registerRange rawT rawP k)
  rw [firstSens64_eq, firstT64_eq, sens2Of64_accOf ht (diffT (compInOf rawT rawP k)), accOf_sub]
  rfl

theorem off64_eq : firstOff64 (accInOf rawT rawP k) - off2Of64 (firstT64 (accInOf rawT rawP k)) =
    accOf (corrected (compInOf rawT rawP k)).off := by
  have ht := firstOrder_t_bounds (compInOf_registerRange rawT rawP k)
  rw [firstOff64_eq, firstT64_eq, off2Of64_accOf ht (diffT (compInOf rawT rawP k)), accOf_sub]
  rfl

theorem pressure64_eq : pressure64 (accInOf rawT rawP k) = accOf (compensate (compInOf rawT rawP k)).2 := by
  have hx := compInOf_registerRange rawT rawP k
  have hproduct := fits_of_bounds (rawPressure_mul_sens_bounds hx) (by norm_num) (by norm_num)
  have hdiff := fits_of_bounds (shr_product_sub_off_bounds hx) (by norm_num) (by norm_num)
  have hraw : (accInOf rawT rawP k).rawPressure = accOf (compInOf rawT rawP k).rawPressure := setWidth_eq_accOf rawP
  rw [pressure64, sens64_eq, off64_eq, hraw, accOf_mul, accOf_sshiftRight 21 hproduct, accOf_sub,
    accOf_sshiftRight 15 hdiff]
  rfl

end Registers

/-- Settles O37: both accumulators hold their integer, which 64 bits hold by the bounds of section 2. -/
theorem sixtyFourBitsAreEnough : Obligations.SixtyFourBitsAreEnough := by
  intro rawT rawP k
  obtain ⟨htlow, hthigh, hplow, hphigh⟩ := outputsAreBounded rawT rawP k
  rw [temperature64_eq, pressure64_eq]
  exact ⟨accOf_toInt ⟨by omega, by omega⟩, accOf_toInt ⟨by omega, by omega⟩⟩

end Sys2Proof.Machine
end

section
/-! SUPPORT. The CRC-4 of an image: its low byte of word 7, its low bits, its linearity, single-bit errors, and the
plain CRC-4 of the message bits (41_cal.md R76, R77, R81). -/

namespace Sys2Proof.Machine

/-! ### The mask of word 7 (R77) -/

theorem and_highByte_eq (w : Half) : w &&& 0xFF00#16 = w >>> 8 <<< 8 :=
  (BitVec.shiftLeft_ushiftRight (x := w) (n := 8)).symm

theorem maskImage_set_seven {img : PromImage} {w : Half} (h : w.toNat / 256 = img[7].toNat / 256) :
    maskImage (img.set 7 w) = maskImage img := by
  have hhigh : w >>> 8 = img[7] >>> 8 := by
    apply BitVec.eq_of_toNat_eq
    simpa [BitVec.toNat_ushiftRight, Nat.shiftRight_eq_div_pow] using h
  have hmask : w &&& 0xFF00#16 = img[7] &&& 0xFF00#16 := by rw [and_highByte_eq, and_highByte_eq, hhigh]
  simpa [maskImage] using congrArg (img.set 7 ·) hmask

/-- Settles O23: the working copy, from which the CRC is computed, is the same. -/
theorem lowByteOfWordSevenIsMasked : Obligations.LowByteOfWordSevenIsMasked := by
  intro img w h
  rw [crc4, crc4, crcRegister, crcRegister, maskImage_set_seven h]

/-! ### Linearity (R81 (b)) -/

theorem crcByte_xor (r r' : Half) (b b' : Byte) : crcByte (r ^^^ r') (b ^^^ b') = crcByte r b ^^^ crcByte r' b' := by
  rw [crcByte, crcByte, crcByte, ← crcShifts_xor, BitVec.setWidth_xor]
  congr 1
  ac_rfl

theorem wordBytes_xor (w w' : Half) : wordBytes (w ^^^ w') = List.zipWith (· ^^^ ·) (wordBytes w) (wordBytes w') := by
  simp [wordBytes, BitVec.extractLsb'_xor]

theorem foldl_crcByte_xor (bs bs' : List Byte) (h : bs.length = bs'.length) (r r' : Half) :
    (List.zipWith (· ^^^ ·) bs bs').foldl crcByte (r ^^^ r') = bs.foldl crcByte r ^^^ bs'.foldl crcByte r' := by
  induction bs generalizing bs' r r' with
  | nil => cases bs' <;> simp_all
  | cons b bs ih =>
    cases bs' with
    | nil => simp at h
    | cons b' bs' => rw [List.zipWith_cons_cons, List.foldl_cons, crcByte_xor, ih bs' (by simpa using h)]; rfl

theorem flatMap_wordBytes_xor (ws ws' : List Half) (h : ws.length = ws'.length) :
    (List.zipWith (· ^^^ ·) ws ws').flatMap wordBytes =
      List.zipWith (· ^^^ ·) (ws.flatMap wordBytes) (ws'.flatMap wordBytes) := by
  induction ws generalizing ws' with
  | nil => simp
  | cons w ws ih =>
    cases ws' with
    | nil => simp at h
    | cons w' ws' =>
      rw [List.zipWith_cons_cons, List.flatMap_cons, ih ws' (by simpa using h), wordBytes_xor]; rfl

theorem xor_and_distrib_right (a b m : Half) : (a ^^^ b) &&& m = (a &&& m) ^^^ (b &&& m) := by
  ext k hk
  simp [Bool.and_xor_distrib_right]

theorem maskImage_xorImage (a b : PromImage) : maskImage (xorImage a b) = xorImage (maskImage a) (maskImage b) := by
  apply Vector.ext
  intro i hi
  by_cases h7 : i = 7
  · subst h7
    simp [maskImage, xorImage, xor_and_distrib_right]
  · simp [maskImage, xorImage, Vector.getElem_set_ne _ _ (Ne.symm h7)]

theorem imageBytes_xorImage (a b : PromImage) :
    imageBytes (xorImage a b) = List.zipWith (· ^^^ ·) (imageBytes a) (imageBytes b) := by
  rw [imageBytes, xorImage, Vector.toList_zipWith, flatMap_wordBytes_xor _ _ (by simp)]; rfl

theorem imageBytes_length (img : PromImage) : (imageBytes img).length = 16 := by
  simp [imageBytes_eq, wordBytes]

theorem crcRegister_xorImage (a b : PromImage) : crcRegister (xorImage a b) = crcRegister a ^^^ crcRegister b := by
  rw [crcRegister, maskImage_xorImage, imageBytes_xorImage]
  exact foldl_crcByte_xor _ _ (by simp [imageBytes_length]) crcInit crcInit

theorem crc4_xorImage (a b : PromImage) : crc4 (xorImage a b) = crc4 a ^^^ crc4 b := by
  rw [crc4, crcResult, crcRegister_xorImage, BitVec.extractLsb'_xor]; rfl

/-- Settles O19: the iteration is linear, hence the whole register; the zero image is a single computation. -/
theorem crcIsLinear : Obligations.CrcIsLinear := ⟨crc4_xorImage, by decide +kernel⟩

/-! ### Single-bit errors (R81 (c)) -/

/-- The image whose one set bit is `bit` of word `i`. -/
def unitImage (i : Fin 8) (bit : Fin 16) : PromImage := flipBit (Vector.replicate 8 0) i bit

theorem flipBit_eq_xorImage (img : PromImage) (i : Fin 8) (bit : Fin 16) :
    flipBit img i bit = xorImage img (unitImage i bit) := by
  apply Vector.ext
  intro j hj
  by_cases hji : i.val = j
  · subst hji
    simp [flipBit, xorImage, unitImage]
  · simp [flipBit, xorImage, unitImage, Vector.getElem_set_ne _ _ hji]

theorem storedCrc_xorImage (a b : PromImage) : storedCrc (xorImage a b) = storedCrc a ^^^ storedCrc b := by
  simp [storedCrc, xorImage, BitVec.extractLsb'_xor]

/-- The 128 single-bit images: only bits 7:4 of word 7 change neither the CRC nor the stored nibble, and no bit changes
both alike. -/
theorem crc4_unitImage_eq_storedCrc_iff : ∀ (i : Fin 8) (bit : Fin 16),
    crc4 (unitImage i bit) = storedCrc (unitImage i bit) ↔ i = 7 ∧ 4 ≤ bit.val ∧ bit.val ≤ 7 := by decide +kernel

theorem storedCrc_unitImage_eq_zero : ∀ (i : Fin 8) (bit : Fin 16),
    i = 7 ∧ 4 ≤ bit.val ∧ bit.val ≤ 7 → storedCrc (unitImage i bit) = 0#4 := by decide +kernel

/-- Settles O20: by linearity the error alone decides, and there are 128 of them. -/
theorem singleBitErrorsAreDetected : Obligations.SingleBitErrorsAreDetected := by
  intro img i bit hvalid
  obtain ⟨hstored, hcrc⟩ := (validImage_iff img).mp hvalid
  rw [validImage_iff, flipBit_eq_xorImage, crc4_xorImage, storedCrc_xorImage, hcrc,
    ← crc4_unitImage_eq_storedCrc_iff, BitVec.xor_right_inj]
  refine and_iff_right_of_imp fun h => ?_
  rw [storedCrc_unitImage_eq_zero i bit ((crc4_unitImage_eq_storedCrc_iff i bit).mp h), BitVec.xor_zero]
  exact hstored

/-! ### The low bits of the register (R76) -/

theorem crcPoly_low : ∀ k < 12, crcPoly.getLsbD k = false := by decide

theorem crcShift_getLsbD_low (r : Half) {k : Nat} (hk : k < 12) :
    (crcShift r).getLsbD k = (r <<< 1).getLsbD k := by
  unfold crcShift
  split
  · rw [BitVec.getLsbD_xor, crcPoly_low k hk, Bool.xor_false]
  · rfl

/-- Each iteration shifts one more zero into the twelve low bits. -/
theorem crcShifts_low {m : Nat} (n : Nat) {r : Half} (h : ∀ k < 12, k < m → r.getLsbD k = false) :
    ∀ k < 12, k < m + n → (crcShifts n r).getLsbD k = false := by
  induction n generalizing m r with
  | zero => exact h
  | succ n ih =>
    have hshift : ∀ k < 12, k < m + 1 → (crcShift r).getLsbD k = false := by
      intro k hk hkm
      rw [crcShift_getLsbD_low r hk, BitVec.getLsbD_shiftLeft]
      by_cases hzero : k < 1
      · simp [hzero]
      · simp [h (k - 1) (by omega) (by omega)]
    intro k hk hkm
    exact ih hshift k hk (by omega)

theorem foldl_crcByte_low (bs : List Byte) {r : Half} (h : ∀ k < 8, r.getLsbD k = false) :
    ∀ k < 8, (bs.foldl crcByte r).getLsbD k = false := by
  induction bs generalizing r with
  | nil => exact h
  | cons b bs ih =>
    exact ih fun k hk => crcShifts_low (m := 0) 8 (fun k _ hk => absurd hk (Nat.not_lt_zero k)) k (by omega) (by omega)

theorem and_highByte_extract_high (w : Half) : (w &&& 0xFF00#16).extractLsb' 8 8 = w.extractLsb' 8 8 := by
  rw [BitVec.extractLsb'_and, show (0xFF00#16).extractLsb' 8 8 = BitVec.allOnes 8 by decide, BitVec.and_allOnes]

theorem and_highByte_extract_low (w : Half) : (w &&& 0xFF00#16).extractLsb' 0 8 = 0#8 := by
  rw [BitVec.extractLsb'_and, show (0xFF00#16).extractLsb' 0 8 = 0#8 by decide, BitVec.and_zero]

/-- The last byte of the working copy is 0 and only shifts the register eight times more. -/
theorem crcRegister_eq_crcShifts (img : PromImage) :
    crcRegister img = crcShifts 8 (((imageBytes img).take 15).foldl crcByte crcInit) := by
  have hbytes : imageBytes (maskImage img) = (imageBytes img).take 15 ++ [0] := by
    simp [imageBytes_eq, maskImage, wordBytes, and_highByte_extract_high, and_highByte_extract_low]
  rw [crcRegister, hbytes, List.foldl_append, List.foldl_cons, List.foldl_nil, crcByte]
  simp

theorem crcRegister_low (img : PromImage) : ∀ k < 12, (crcRegister img).getLsbD k = false := by
  rw [crcRegister_eq_crcShifts]
  intro k hk
  have h8 := foldl_crcByte_low ((imageBytes img).take 15) (r := crcInit) (by decide)
  exact crcShifts_low (m := 8) 8 (fun k _ hk => h8 k hk) k hk (by omega)

/-- Settles O22: after the last byte that enters, the register has been shifted sixteen times. -/
theorem crcLowBitsAreZero : Obligations.CrcLowBitsAreZero := by
  intro img
  apply Nat.eq_of_testBit_eq
  intro k
  rw [Nat.zero_testBit, show 4096 = 2 ^ 12 from rfl, Nat.testBit_mod_two_pow]
  by_cases hk : k < 12
  · rw [BitVec.testBit_toNat, crcRegister_low img k hk, Bool.and_false]
  · simp [hk]

/-! ### The plain CRC-4 (R81 (a)) -/

/-- One iteration of the plain CRC-4 without an input bit: times `x`, modulo the generator. -/
def plainShift (r : BitVec 4) : BitVec 4 := if r.msb then r <<< 1 ^^^ 0x3#4 else r <<< 1

/-- One iteration of the plain CRC-4 with an input bit. -/
def plainFeed (r : BitVec 4) (b : Bool) : BitVec 4 := plainShift r ^^^ (BitVec.ofBool b).setWidth 4

theorem plainCrc4_eq (bits : List Bool) : plainCrc4 bits = bits.foldl plainFeed 0 := rfl

theorem plainShift_xor : ∀ r r' : BitVec 4, plainShift (r ^^^ r') = plainShift r ^^^ plainShift r' := by decide

theorem plainShift_injective : Function.Injective plainShift := by
  unfold Function.Injective
  decide

theorem plainShift_iterate_xor (n : Nat) (r r' : BitVec 4) :
    plainShift^[n] (r ^^^ r') = plainShift^[n] r ^^^ plainShift^[n] r' := by
  induction n generalizing r r' with
  | zero => rfl
  | succ n ih => rw [Function.iterate_succ_apply, plainShift_xor, ih]; rfl

theorem plainFeed_xor (r r' : BitVec 4) (b : Bool) : plainFeed (r ^^^ r') b = plainShift r ^^^ plainFeed r' b := by
  rw [plainFeed, plainFeed, plainShift_xor, BitVec.xor_assoc]

/-- A register's content is only shifted along while bits are fed to the register. -/
theorem foldl_plainFeed_xor (bits : List Bool) (r r' : BitVec 4) :
    bits.foldl plainFeed (r ^^^ r') = plainShift^[bits.length] r ^^^ bits.foldl plainFeed r' := by
  induction bits generalizing r r' with
  | nil => rfl
  | cons b bs ih => rw [List.foldl_cons, plainFeed_xor, ih]; rfl

theorem foldl_plainFeed (bits : List Bool) (r : BitVec 4) :
    bits.foldl plainFeed r = plainShift^[bits.length] r ^^^ bits.foldl plainFeed 0 := by
  rw [← foldl_plainFeed_xor, show r ^^^ 0 = r from BitVec.xor_zero]

/-! The sixteen-bit register, read modulo the generator, is eight iterations ahead of the plain register. -/

/-- The register modulo the generator, nibble by nibble. -/
def residue (r : Half) : BitVec 4 :=
  r.extractLsb' 0 4 ^^^ plainShift^[4] (r.extractLsb' 4 4 ^^^ plainShift^[4] (r.extractLsb' 8 4 ^^^
    plainShift^[4] (r.extractLsb' 12 4)))

theorem residue_xor (r r' : Half) : residue (r ^^^ r') = residue r ^^^ residue r' := by
  simp only [residue, BitVec.extractLsb'_xor, plainShift_iterate_xor]
  ac_rfl

theorem zero_of_xor_linear {f : Half → BitVec 4} (hf : ∀ r r', f (r ^^^ r') = f r ^^^ f r') : f 0 = 0 := by
  have h := hf 0 0
  rwa [BitVec.xor_self, BitVec.xor_self] at h

/-- Two linear functions of the register that agree on its sixteen bits agree. -/
theorem eq_of_xor_linear {f g : Half → BitVec 4} (hf : ∀ r r', f (r ^^^ r') = f r ^^^ f r')
    (hg : ∀ r r', g (r ^^^ r') = g r ^^^ g r')
    (h : ∀ i : Fin 16, f (BitVec.twoPow 16 i) = g (BitVec.twoPow 16 i)) (r : Half) : f r = g r := by
  have below : ∀ n ≤ 16, ∀ r : Half, (∀ i, n ≤ i → r.getLsbD i = false) → f r = g r := by
    intro n hn
    induction n with
    | zero =>
      intro r hr
      have hzero : r = 0 := BitVec.eq_of_getLsbD_eq fun i _ => by simp [hr i]
      rw [hzero, zero_of_xor_linear hf, zero_of_xor_linear hg]
    | succ n ih =>
      intro r hr
      cases hbit : r.getLsbD n with
      | false =>
        refine ih (by omega) r fun i hi => ?_
        obtain rfl | hlt := hi.eq_or_lt
        · exact hbit
        · exact hr i hlt
      | true =>
        have hrest : f (r ^^^ BitVec.twoPow 16 n) = g (r ^^^ BitVec.twoPow 16 n) := by
          refine ih (by omega) _ fun i hi => ?_
          rw [BitVec.getLsbD_xor, BitVec.getLsbD_twoPow]
          obtain rfl | hlt := hi.eq_or_lt
          · simp [hbit, show n < 16 by omega]
          · simp [hr i hlt, show n ≠ i by omega]
        rw [hf, hg, h ⟨n, by omega⟩] at hrest
        exact (BitVec.xor_left_inj _).mp hrest
  exact below 16 le_rfl r fun i hi => BitVec.getLsbD_of_ge r i hi

theorem residue_crcShift (r : Half) : residue (crcShift r) = plainShift (residue r) := by
  refine eq_of_xor_linear (f := fun r => residue (crcShift r)) (g := fun r => plainShift (residue r)) ?_ ?_ ?_ r
  · exact fun r r' => by rw [crcShift_xor, residue_xor]
  · exact fun r r' => by rw [residue_xor, plainShift_xor]
  · decide +kernel

theorem residue_crcShifts (n : Nat) (r : Half) : residue (crcShifts n r) = plainShift^[n] (residue r) := by
  induction n generalizing r with
  | zero => rfl
  | succ n ih => rw [crcShifts_succ, ih, residue_crcShift]; rfl

/-- The bits of a byte, the most significant first. -/
def byteBits (b : Byte) : List Bool := (List.range 8).map (fun k => b.getLsbD (7 - k))

theorem residue_byte : ∀ b : Byte, residue (b.setWidth 16) = (byteBits b).foldl plainFeed 0 := by decide +kernel

/-- One byte: the register stays eight iterations ahead. -/
theorem residue_crcByte {r : Half} {m : BitVec 4} (h : residue r = plainShift^[8] m) (b : Byte) :
    residue (crcByte r b) = plainShift^[8] ((byteBits b).foldl plainFeed m) := by
  rw [crcByte, residue_crcShifts, residue_xor, h, residue_byte, foldl_plainFeed (byteBits b) m]
  rfl

theorem residue_foldl_crcByte (bs : List Byte) {r : Half} {m : BitVec 4} (h : residue r = plainShift^[8] m) :
    residue (bs.foldl crcByte r) = plainShift^[8] ((bs.flatMap byteBits).foldl plainFeed m) := by
  induction bs generalizing r m with
  | nil => exact h
  | cons b bs ih =>
    rw [List.foldl_cons, ih (residue_crcByte h b), List.flatMap_cons, List.foldl_append]

/-- With twelve zeros below it, the result is worth itself times `x` to the twelfth. -/
theorem residue_crcRegister (img : PromImage) : residue (crcRegister img) = plainShift^[12] (crc4 img) := by
  have hzero : ∀ start, start + 4 ≤ 12 → (crcRegister img).extractLsb' start 4 = 0#4 := by
    intro start hstart
    apply BitVec.eq_of_getLsbD_eq
    intro k hk
    simp [crcRegister_low img (start + k) (by omega)]
  rw [residue, hzero 0 (by norm_num), hzero 4 (by norm_num), hzero 8 (by norm_num), BitVec.zero_xor, BitVec.zero_xor,
    BitVec.zero_xor, ← Function.iterate_add_apply, ← Function.iterate_add_apply]
  rfl

theorem messageBits_eq (img : PromImage) :
    messageBits img = ((imageBytes img).take 15).flatMap byteBits ++ List.replicate 4 false := rfl

theorem foldl_plainFeed_zeros (m : BitVec 4) : (List.replicate 4 false).foldl plainFeed m = plainShift^[4] m := by
  rw [foldl_plainFeed]
  exact BitVec.xor_zero

/-- Settles O18: both registers hold the message times a power of `x` modulo the generator, and `x` is invertible. -/
theorem crcIsThePlainCrc4 : Obligations.CrcIsThePlainCrc4 := by
  intro img
  apply plainShift_injective.iterate 12
  rw [← residue_crcRegister, crcRegister_eq_crcShifts, residue_crcShifts,
    residue_foldl_crcByte _ (m := 0) (by decide), plainCrc4_eq, messageBits_eq, List.foldl_append,
    foldl_plainFeed_zeros, ← Function.iterate_add_apply, ← Function.iterate_add_apply]

end Sys2Proof.Machine
end

section
/-! SUPPORT. How each command ends when it is run at the idle port, and what it writes and leaves (41_cal.md R79,
42_conv.md R83 to R88, 43_comp.md R99, 60_exceptions.md R105, R108). -/

namespace Sys2Proof.Machine

/-! ### CAL.LOAD (41_cal.md R79) -/

theorem afterReads_nextWord (s : State) (img buffer : PromImage) (k : Nat) (q : Seq) :
    (afterReads s img buffer k q).nextWord = s.words.nth Config.freeWord k := State.nextWord_of_skip s _ k rfl

section Idle

variable {s : State} (hidle : s.busy = false)
include hidle

theorem runCommand_startCal_of_calValid (hcal : s.calValid = true) :
    runCommand startCal s = endCal .eState s := by
  obtain ⟨-, h⟩ | ⟨hcal', -⟩ := startCal_cases s
  · rw [runCommand_idle _ hidle, h]
    exact ticks_idle _ rfl
  · cases hcal.symm.trans hcal'

theorem runCommand_startCal_of_not_calValid (hcal : s.calValid = false) :
    runCommand startCal s = ticks 9 { s with seq := .calRd 0 } := by
  obtain ⟨hcal', -⟩ | ⟨-, h⟩ := startCal_cases s
  · cases hcal.symm.trans hcal'
  · rw [runCommand_idle _ hidle, h]; rfl

variable (hcal : s.calValid = false) {img : PromImage}
include hcal

/-- All eight words answered: the check decides. -/
theorem runCommand_startCal_of_image (himg : ∀ i : Fin 8, s.words.nth Config.freeWord i.val = .ok img[i]) :
    runCommand startCal s = calCheck (afterReads s img img 8 .calCrc) := by
  rw [runCommand_startCal_of_not_calValid hidle hcal, ticks_add 8 1, ticks_calCrc s img himg]
  exact tick_calCrc (s := afterReads s img img 8 .calCrc) rfl

/-- The first failing read ends the command. -/
theorem runCommand_startCal_of_ioError {k : Fin 8}
    (himg : ∀ i : Fin 8, i < k → s.words.nth Config.freeWord i.val = .ok img[i])
    (hans : s.words.nth Config.freeWord k.val = .ioError) : ∃ buffer, runCommand startCal s =
      endCal .eIo (busReadWord (promOffset k) (afterReads s img buffer k.val (.calRd k))) := by
  obtain ⟨buffer, -, hreads⟩ := ticks_calRd s img k.val k.isLt himg
  have hnext := (afterReads_nextWord s img buffer k.val (.calRd k)).trans hans
  refine ⟨buffer, ?_⟩
  rw [runCommand_startCal_of_not_calValid hidle hcal, show 9 = k.val + ((8 - k.val) + 1) by omega, ticks_add, hreads,
    ticks_succ, tick_calRd rfl, calReadWord_of_ioError hnext, ticks_idle _ rfl]

end Idle

/-- The words the bus layer has ready for CAL.LOAD, 0 for a failing read. -/
def offeredImage (s : State) : PromImage := Vector.ofFn fun i =>
  match s.words.nth Config.freeWord i.val with
  | .ok w => w
  | .ioError => 0

theorem nth_eq_offeredImage {s : State} {i : Fin 8} (h : s.words.nth Config.freeWord i.val ≠ .ioError) :
    s.words.nth Config.freeWord i.val = .ok (offeredImage s)[i] := by
  cases hans : s.words.nth Config.freeWord i.val with
  | ok w => simp [offeredImage, hans]
  | ioError => exact absurd hans h

/-- The bus answers all eight reads, or one of them is the first to fail. -/
theorem words_answered_or_failed (s : State) :
    (∀ i : Fin 8, s.words.nth Config.freeWord i.val = .ok (offeredImage s)[i]) ∨
    (∃ k : Fin 8, (∀ i : Fin 8, i < k → s.words.nth Config.freeWord i.val = .ok (offeredImage s)[i]) ∧
      s.words.nth Config.freeWord k.val = .ioError) := by
  by_cases hfail : ∃ i : Fin 8, s.words.nth Config.freeWord i.val = .ioError
  · obtain ⟨k, hk, hmin⟩ := wellFounded_lt.has_min {i : Fin 8 | s.words.nth Config.freeWord i.val = .ioError} hfail
    exact .inr ⟨k, fun i hi => nth_eq_offeredImage fun hans => hmin i hans hi, hk⟩
  · exact .inl fun i => nth_eq_offeredImage (not_exists.mp hfail i)

/-- CAL.LOAD at the idle port: refused, cut short by a failing read, or ended by the check. -/
theorem runCommand_startCal_cases {s : State} (hidle : s.busy = false) :
    runCommand startCal s = endCal .eState s ∨
    (∃ img buffer k, runCommand startCal s =
      endCal .eIo (busReadWord (promOffset k) (afterReads s img buffer k.val (.calRd k)))) ∨
    (∃ img, runCommand startCal s = endCal .ok { afterReads s img img 8 .calCrc with
      crcReg := crcRegister img, calib := constsOf img, calValid := true }) ∨
    (∃ img, runCommand startCal s = endCal .eIntegrity { afterReads s img img 8 .calCrc with
      crcReg := crcRegister img }) := by
  cases hcal : s.calValid with
  | true => exact .inl (runCommand_startCal_of_calValid hidle hcal)
  | false =>
    right
    obtain himg | ⟨k, himg, hans⟩ := words_answered_or_failed s
    · rw [runCommand_startCal_of_image hidle hcal himg]
      obtain ⟨-, h⟩ | ⟨-, h⟩ := calCheck_cases (afterReads s (offeredImage s) (offeredImage s) 8 .calCrc)
      · exact .inr (.inl ⟨_, h⟩)
      · exact .inr (.inr ⟨_, h⟩)
    · obtain ⟨buffer, h⟩ := runCommand_startCal_of_ioError hidle hcal himg hans
      exact .inl ⟨_, buffer, k, h⟩

/-- Settles O24: the check, or the first failing read, after the reads before it; on a validated store no transition. -/
theorem calLoadOutcomes : Obligations.CalLoadOutcomes := by
  refine ⟨by decide, fun s img hidle hcal himg hvalid => ?_, fun s img hidle hcal himg hvalid => ?_,
    fun s img k hidle hcal himg hans => ?_, fun s hidle hcal => ?_⟩ <;>
  have hseq := (busy_eq_false_iff s).mp hidle <;> rw [exec_eq_runCommand, startInstr]
  · rw [runCommand_startCal_of_image hidle hcal himg]
    simp [calCheck, afterReads, hvalid, endCal, endCommand, wipeImage, constsOf, ← hseq]
  · rw [runCommand_startCal_of_image hidle hcal himg]
    simp [calCheck, afterReads, hvalid, endCal, endCommand, wipeImage, ← hseq]
  · obtain ⟨buffer, h⟩ := runCommand_startCal_of_ioError hidle hcal himg hans
    rw [h, busReadWord, afterReads_nextWord, hans]
    simp [afterReads, endCal, endCommand, wipeImage, Oracle.skip_advance, ← hseq]
  · rw [runCommand_startCal_of_calValid hidle hcal]
    simp [endCal, endCommand, wipeImage, ← hseq]

/-- Settles O25: by the four ends of CAL.LOAD; while BUSY = 1 nothing happens. -/
theorem calLoadFrame : Obligations.CalLoadFrame := by
  intro s t h
  rw [eq_runCommand_of_exec h, startInstr]
  cases hbusy : s.busy with
  | true => simp [runCommand_busy _ hbusy]
  | false =>
    obtain h | ⟨img, buffer, k, h⟩ | ⟨img, h⟩ | ⟨img, h⟩ := runCommand_startCal_cases hbusy <;> rw [h] <;>
      simp [endCal, afterReads]

/-! ### CONV.P and CONV.T (42_conv.md R83 to R88) -/

/-- The command that converts a channel. -/
def convInstr : Channel → Instr
  | .pressure => .convP
  | .temperature => .convT

theorem startInstr_convInstr (ch : Channel) : startInstr (convInstr ch) = startConv ch := by cases ch <;> rfl

/-- The state after the settling wait of a conversion, before its block read. -/
def settled (ch : Channel) (s : State) : State :=
  busSleep (s.row ch).delay (busWriteCommand (s.row ch).cmd (holdSample ch s))

/-- The state after all three bus transactions of a conversion, before its end. -/
def converted (ch : Channel) (s : State) : State := busReadBlock Config.params.adcReg (settled ch s)

section Idle

variable (ch : Channel) {s : State} (hidle : s.busy = false)
include hidle

theorem runCommand_startConv : runCommand (startConv ch) s = ticks 8 (convWrite ch (startConv ch s)) := by
  rw [runCommand_idle _ hidle, finish, maxTicks, ticks_succ, tick_convCmd (ch := ch) rfl]

theorem runCommand_startConv_of_writeFailed (hans : s.nextWrite = .ioError) : runCommand (startConv ch) s =
    failConv ch (busWriteCommand (s.row ch).cmd (holdSample ch s)) := by
  have hans' : (startConv ch s).nextWrite = .ioError := by cases ch <;> exact hans
  rw [runCommand_startConv ch hidle, convWrite, hans']
  cases ch <;> exact ticks_idle _ rfl

theorem runCommand_startConv_of_written (hans : s.nextWrite = .ok ()) :
    runCommand (startConv ch) s = ticks 6 (convRead ch { settled ch s with seq := .convRd ch }) := by
  have hans' : (startConv ch s).nextWrite = .ok () := by cases ch <;> exact hans
  rw [runCommand_startConv ch hidle, convWrite, hans', ticks_succ, tick_convWait (ch := ch) rfl, ticks_succ,
    tick_convRd (ch := ch) rfl]
  cases ch <;> rfl

variable (hwrite : s.nextWrite = .ok ())
include hwrite

theorem runCommand_startConv_of_blockFailed (hans : s.nextBlock = .ioError) :
    runCommand (startConv ch) s = failConv ch (converted ch s) := by
  have hans' : { settled ch s with seq := .convRd ch }.nextBlock = .ioError := by cases ch <;> exact hans
  rw [runCommand_startConv_of_written ch hidle hwrite, convRead, hans']
  cases ch <;> exact ticks_idle _ rfl

theorem runCommand_startConv_of_blockRead {b : Block} (hans : s.nextBlock = .ok b) :
    runCommand (startConv ch) s = endCommand .ok (putSample ch (assembleSample b) (converted ch s)) := by
  have hans' : { settled ch s with seq := .convRd ch }.nextBlock = .ok b := by cases ch <;> exact hans
  rw [runCommand_startConv_of_written ch hidle hwrite, convRead, hans']
  cases ch <;> exact ticks_idle _ rfl

end Idle

/-- A conversion at the idle port: the write fails, the block read fails, or the sample is stored. -/
theorem runCommand_startConv_cases (ch : Channel) {s : State} (hidle : s.busy = false) :
    runCommand (startConv ch) s = failConv ch (busWriteCommand (s.row ch).cmd (holdSample ch s)) ∨
    runCommand (startConv ch) s = failConv ch (converted ch s) ∨
    (∃ b, runCommand (startConv ch) s = endCommand .ok (putSample ch (assembleSample b) (converted ch s))) := by
  cases hwrite : s.nextWrite with
  | ioError => exact .inl (runCommand_startConv_of_writeFailed ch hidle hwrite)
  | ok _ =>
    cases hans : s.nextBlock with
    | ioError => exact .inr (.inl (runCommand_startConv_of_blockFailed ch hidle hwrite hans))
    | ok b => exact .inr (.inr ⟨b, runCommand_startConv_of_blockRead ch hidle hwrite hans⟩)

@[simp] theorem holdSample_nextWrite (ch : Channel) (s : State) : (holdSample ch s).nextWrite = s.nextWrite := by
  cases ch <;> rfl

@[simp] theorem holdSample_nextExcess (ch : Channel) (s : State) : (holdSample ch s).nextExcess = s.nextExcess := by
  cases ch <;> rfl

@[simp] theorem settled_nextBlock (ch : Channel) (s : State) : (settled ch s).nextBlock = s.nextBlock := by
  cases ch <;> rfl

@[simp] theorem busWriteCommand_nextExcess (v : Byte) (s : State) : (busWriteCommand v s).nextExcess = s.nextExcess :=
  rfl

theorem converted_eq (ch : Channel) (s : State) : converted ch s =
    { holdSample ch s with
      timer := settleTime (delayOf (s.osr ch)) s.nextExcess
      writes := s.writes.advance
      sleeps := s.sleeps.advance
      blocks := s.blocks.advance
      trace := s.trace ++
        [.commandWrite (commandOf ch (s.osr ch)) s.nextWrite,
         .sleep (delayOf (s.osr ch)) (settleTime (delayOf (s.osr ch)) s.nextExcess),
         .blockRead Config.params.adcReg s.nextBlock] } := by
  rw [converted, busReadBlock, settled_nextBlock, settled, busSleep, busWriteCommand_nextExcess, holdSample_nextExcess]
  simp [busWriteCommand]

section Idle

variable (ch : Channel) {s : State} (hidle : s.busy = false)
include hidle

theorem exec_convInstr_of_writeFailed (hans : s.nextWrite = .ioError) : exec (convInstr ch) s =
    .next { dropSample ch (holdSample ch s) with
      err := .eIo
      writes := s.writes.advance
      trace := s.trace ++ [.commandWrite (commandOf ch (s.osr ch)) .ioError] } := by
  have hseq := (busy_eq_false_iff s).mp hidle
  rw [exec_eq_runCommand, startInstr_convInstr, runCommand_startConv_of_writeFailed ch hidle hans, failConv,
    busWriteCommand, holdSample_nextWrite, hans]
  cases ch <;> simp [endCommand, dropSample, holdSample, ← hseq]

variable (hwrite : s.nextWrite = .ok ())
include hwrite

theorem exec_convInstr_of_blockFailed (hans : s.nextBlock = .ioError) : exec (convInstr ch) s =
    .next { dropSample ch (holdSample ch s) with
      timer := settleTime (delayOf (s.osr ch)) s.nextExcess
      err := .eIo
      writes := s.writes.advance
      sleeps := s.sleeps.advance
      blocks := s.blocks.advance
      trace := s.trace ++ conversionEvents ch (s.osr ch) (settleTime (delayOf (s.osr ch)) s.nextExcess) .ioError } := by
  have hseq := (busy_eq_false_iff s).mp hidle
  rw [exec_eq_runCommand, startInstr_convInstr, runCommand_startConv_of_blockFailed ch hidle hwrite hans, failConv,
    converted_eq, hwrite, hans]
  cases ch <;> simp [endCommand, dropSample, holdSample, conversionEvents, ← hseq]

theorem exec_convInstr_of_blockRead {b : Block} (hans : s.nextBlock = .ok b) : exec (convInstr ch) s =
    .next { putSample ch (assembleSample b) (holdSample ch s) with
      timer := settleTime (delayOf (s.osr ch)) s.nextExcess
      err := .ok
      writes := s.writes.advance
      sleeps := s.sleeps.advance
      blocks := s.blocks.advance
      trace := s.trace ++ conversionEvents ch (s.osr ch) (settleTime (delayOf (s.osr ch)) s.nextExcess) (.ok b) } := by
  have hseq := (busy_eq_false_iff s).mp hidle
  rw [exec_eq_runCommand, startInstr_convInstr, runCommand_startConv_of_blockRead ch hidle hwrite hans, converted_eq,
    hwrite, hans]
  cases ch <;> simp [endCommand, putSample, holdSample, conversionEvents, ← hseq]

end Idle

/-- Settles O27: the three ends of a conversion, read for the pressure channel. -/
theorem convertPressureOutcomes : Obligations.ConvertPressureOutcomes :=
  ⟨by decide, fun _ _ hidle hwrite => exec_convInstr_of_blockRead .pressure hidle hwrite,
    fun _ => exec_convInstr_of_writeFailed .pressure, fun _ => exec_convInstr_of_blockFailed .pressure⟩

/-- Settles O28: the three ends of a conversion, read for the temperature channel. -/
theorem convertTemperatureOutcomes : Obligations.ConvertTemperatureOutcomes :=
  ⟨by decide, fun _ _ hidle hwrite => exec_convInstr_of_blockRead .temperature hidle hwrite,
    fun _ => exec_convInstr_of_writeFailed .temperature, fun _ => exec_convInstr_of_blockFailed .temperature⟩

/-- Settles O29: by the three ends of a conversion; while BUSY = 1 nothing happens. -/
theorem conversionFrame : Obligations.ConversionFrame := by
  refine ⟨fun s t h => ?_, fun s t h => ?_⟩ <;> rw [eq_runCommand_of_exec h, startInstr]
  · cases hbusy : s.busy with
    | true => simp [runCommand_busy _ hbusy]
    | false =>
      obtain h | h | ⟨b, h⟩ := runCommand_startConv_cases .pressure hbusy <;> rw [h] <;>
        simp [failConv, converted, settled]
  · cases hbusy : s.busy with
    | true => simp [runCommand_busy _ hbusy]
    | false =>
      obtain h | h | ⟨b, h⟩ := runCommand_startConv_cases .temperature hbusy <;> rw [h] <;>
        simp [failConv, converted, settled]

/-! ### COMP (43_comp.md R99) -/

theorem compRun_of_idle {s : State} (hidle : s.busy = false) : compRun s =
    { s with
      temp := BitVec.ofInt 32 (compensate (compInOf s.rawT s.rawP s.calib)).1
      press := BitVec.ofInt 32 (compensate (compInOf s.rawT s.rawP s.calib)).2
      outValid := true
      rawT := Config.noSample s.noValues
      rawP := Config.noSample (s.noValues + 1)
      rawTValid := false
      rawPValid := false
      noValues := s.noValues + 2
      err := .ok } := by
  have hseq := (busy_eq_false_iff s).mp hidle
  simp [compRun, endCommand, dropSample, State.compIn, ← hseq]

theorem exec_comp_of_not_calValid {s : State} (hidle : s.busy = false) (hcal : s.calValid = false) :
    exec .comp s = .next { s with err := .eNoCal } := by
  rw [exec_eq_runCommand, ← endCommand_of_idle hidle]
  obtain ⟨-, h⟩ | ⟨hcal', -⟩ | ⟨hcal', -⟩ := runCommand_startComp_cases hidle
  · exact congrArg _ h
  · cases hcal.symm.trans hcal'
  · cases hcal.symm.trans hcal'

theorem exec_comp_of_no_sample {s : State} (hidle : s.busy = false) (hcal : s.calValid = true)
    (hraw : s.rawTValid = false ∨ s.rawPValid = false) : exec .comp s = .next { s with err := .eNoSample } := by
  rw [exec_eq_runCommand, ← endCommand_of_idle hidle]
  obtain ⟨hcal', -⟩ | ⟨-, -, h⟩ | ⟨-, ht, hp, -⟩ := runCommand_startComp_cases hidle
  · cases hcal.symm.trans hcal'
  · exact congrArg _ h
  · simp [ht, hp] at hraw

/-- Settles O38: the two refusals, in their order, and the one writing transition. -/
theorem compOutcomes : Obligations.CompOutcomes := by
  refine ⟨by decide, fun s hidle hcal ht hp => ?_, fun _ => exec_comp_of_not_calValid, fun _ => exec_comp_of_no_sample⟩
  rw [exec_comp_of_sampled hidle hcal ht hp, compRun_of_idle hidle]

/-- Settles O39: by COMP's three ends; while BUSY = 1 nothing happens. -/
theorem compFrame : Obligations.CompFrame := by
  intro s t h
  rw [eq_runCommand_of_exec h, startInstr]
  cases hbusy : s.busy with
  | true => simp [runCommand_busy _ hbusy]
  | false =>
    obtain ⟨-, h⟩ | ⟨-, -, h⟩ | ⟨-, -, -, h⟩ := runCommand_startComp_cases hbusy <;> rw [h] <;> simp [compRun]

/-! ### Errors (60_exceptions.md R105, R108) -/

/-- What an error leaves as it was, whatever the command. -/
def ErrorFrame (s t : State) : Prop :=
  t.calib = s.calib ∧ t.calValid = s.calValid ∧ t.osrP = s.osrP ∧ t.osrT = s.osrT ∧ t.temp = s.temp ∧
    t.press = s.press ∧ t.outValid = s.outValid ∧ t.busy = false

theorem calLoad_error_precise {s : State} (hidle : s.busy = false) (herr : (runCommand startCal s).err ≠ .ok) :
    ErrorFrame s (runCommand startCal s) := by
  obtain h | ⟨img, buffer, k, h⟩ | ⟨img, h⟩ | ⟨img, h⟩ := runCommand_startCal_cases hidle <;> rw [h] at herr ⊢
  case inr.inr.inl => exact absurd rfl herr
  all_goals simp [ErrorFrame, endCal, afterReads, State.busy]

theorem osr_error_precise {s : State} (hidle : s.busy = false) {ch : Channel} {rate : Nat}
    (herr : (runCommand (startOsr ch rate) s).err ≠ .ok) : ErrorFrame s (runCommand (startOsr ch rate) s) := by
  rw [runCommand_startOsr hidle] at herr ⊢
  obtain ⟨-, h⟩ | ⟨idx, -, h⟩ := startOsr_cases ch rate s <;> rw [h] at herr ⊢
  · simp [ErrorFrame, State.busy]
  · exact absurd rfl herr

theorem conv_error_precise {s : State} (hidle : s.busy = false) {ch : Channel}
    (herr : (runCommand (startConv ch) s).err ≠ .ok) :
    ErrorFrame s (runCommand (startConv ch) s) ∧ (runCommand (startConv ch) s).rawValid ch = false := by
  obtain h | h | ⟨b, h⟩ := runCommand_startConv_cases ch hidle <;> rw [h] at herr ⊢
  · exact ⟨by simp [ErrorFrame, failConv, State.busy], by cases ch <;> rfl⟩
  · exact ⟨by simp [ErrorFrame, failConv, converted, settled, State.busy], by cases ch <;> rfl⟩
  · exact absurd rfl herr

theorem comp_error_precise {s : State} (hidle : s.busy = false) (herr : (runCommand startComp s).err ≠ .ok) :
    ErrorFrame s (runCommand startComp s) := by
  obtain ⟨-, h⟩ | ⟨-, -, h⟩ | ⟨-, -, -, h⟩ := runCommand_startComp_cases hidle <;> rw [h] at herr ⊢
  · simp [ErrorFrame, State.busy]
  · simp [ErrorFrame, State.busy]
  · exact absurd rfl herr

/-- Settles O42: each command's failing ends write nothing of these registers. -/
theorem errorsArePrecise : Obligations.ErrorsArePrecise := by
  intro i s t hidle h herr
  rw [eq_runCommand_of_exec h] at herr ⊢
  have h : ErrorFrame s (runCommand (startInstr i) s) ∧
      (i = .convP → (runCommand (startInstr i) s).rawPValid = false) ∧
      (i = .convT → (runCommand (startInstr i) s).rawTValid = false) := by
    cases i with
    | calLoad => exact ⟨calLoad_error_precise hidle herr, nofun, nofun⟩
    | osrSetp rate => exact ⟨osr_error_precise hidle herr, nofun, nofun⟩
    | osrSett rate => exact ⟨osr_error_precise hidle herr, nofun, nofun⟩
    | convP =>
      obtain ⟨hkeeps, hraw⟩ := conv_error_precise hidle herr
      exact ⟨hkeeps, fun _ => hraw, nofun⟩
    | convT =>
      obtain ⟨hkeeps, hraw⟩ := conv_error_precise hidle herr
      exact ⟨hkeeps, nofun, fun _ => hraw⟩
    | comp => exact ⟨comp_error_precise hidle herr, nofun, nofun⟩
  obtain ⟨⟨hcalib, hcal, hosrP, hosrT, htemp, hpress, hout, hbusy⟩, hp, ht⟩ := h
  exact ⟨hcalib, hcal, hosrP, hosrT, htemp, hpress, hout, hbusy, hp, ht⟩

theorem calLoad_err {s : State} (hidle : s.busy = false) :
    (runCommand startCal s).err ∈ [.ok, .eIntegrity, .eIo, .eState] := by
  obtain h | ⟨img, buffer, k, h⟩ | ⟨img, h⟩ | ⟨img, h⟩ := runCommand_startCal_cases hidle <;> rw [h] <;> simp [endCal]

theorem osr_err {s : State} (hidle : s.busy = false) (ch : Channel) (rate : Nat) :
    (runCommand (startOsr ch rate) s).err ∈ [.ok, .eRate] := by
  rw [runCommand_startOsr hidle]
  obtain ⟨-, h⟩ | ⟨idx, -, h⟩ := startOsr_cases ch rate s <;> rw [h] <;> simp

theorem conv_err {s : State} (hidle : s.busy = false) (ch : Channel) :
    (runCommand (startConv ch) s).err ∈ [.ok, .eIo] := by
  obtain h | h | ⟨b, h⟩ := runCommand_startConv_cases ch hidle <;> rw [h] <;> simp [failConv]

theorem comp_err {s : State} (hidle : s.busy = false) :
    (runCommand startComp s).err ∈ [.ok, .eNoCal, .eNoSample] := by
  obtain ⟨-, h⟩ | ⟨-, -, h⟩ | ⟨-, -, -, h⟩ := runCommand_startComp_cases hidle <;> rw [h] <;> simp [compRun]

/-- Settles O43: the codes of each command's ends. -/
theorem resultCodesPerCommand : Obligations.ResultCodesPerCommand := by
  intro i s t hidle h
  rw [eq_runCommand_of_exec h]
  refine ⟨?_, ?_, ?_, ?_⟩
  · rintro rfl
    simpa [startInstr] using calLoad_err hidle
  · rintro ⟨rate, rfl | rfl⟩
    · simpa [startInstr] using osr_err hidle .pressure rate
    · simpa [startInstr] using osr_err hidle .temperature rate
  · rintro (rfl | rfl)
    · simpa [startInstr] using conv_err hidle .pressure
    · simpa [startInstr] using conv_err hidle .temperature
  · rintro rfl
    simpa [startInstr] using comp_err hidle

/-! ### Lists of commands (30_encoding.md R61) -/

theorem runCommands_cons_of_error {i : Instr} {s t : State} (h : exec i s = .next t) (herr : t.err ≠ .ok)
    (rest : List Instr) : runCommands (i :: rest) s = .next t := by
  simp [runCommands, h, herr]

theorem runCommands_cons_of_ok {i : Instr} {s t : State} (h : exec i s = .next t) (hok : t.err = .ok)
    (rest : List Instr) : runCommands (i :: rest) s = runCommands rest t := by
  simp [runCommands, h, hok]

/-- Settles O58: the first command's error ends the list. -/
theorem commandsAreAbandonedAtAnError : Obligations.CommandsAreAbandonedAtAnError :=
  fun _ rest _ _ h herr => runCommands_cons_of_error h herr rest

/-- The state after a conversion of `ch` that was answered with `b`. -/
def sampledWith (ch : Channel) (b : Block) (s : State) : State :=
  endCommand .ok (putSample ch (assembleSample b) (converted ch s))

theorem exec_convInstr {ch : Channel} {b : Block} {s : State} (hidle : s.busy = false) (hwrite : s.nextWrite = .ok ())
    (hans : s.nextBlock = .ok b) : exec (convInstr ch) s = .next (sampledWith ch b s) := by
  rw [exec_eq_runCommand, startInstr_convInstr, runCommand_startConv_of_blockRead ch hidle hwrite hans]
  rfl

/-- Two answered conversions and COMP, in either order of the channels. -/
theorem runCommands_conv_conv_comp {ch ch' : Channel} {b b' : Block} {s : State} (hch : ch ≠ ch')
    (hidle : s.busy = false) (hcal : s.calValid = true) (hwrite : s.nextWrite = .ok ())
    (hwrite' : s.writes.nth Config.freeWrite 1 = .ok ()) (hans : s.nextBlock = .ok b)
    (hans' : s.blocks.nth Config.freeBlock 1 = .ok b') :
    runCommands [convInstr ch, convInstr ch', .comp] s =
      .next (compRun (sampledWith ch' b' (sampledWith ch b s))) := by
  have hwrite₁ : (sampledWith ch b s).nextWrite = .ok () := by cases ch <;> exact hwrite'
  have hans₁ : (sampledWith ch b s).nextBlock = .ok b' := by cases ch <;> exact hans'
  have hcomp : exec .comp (sampledWith ch' b' (sampledWith ch b s)) =
      .next (compRun (sampledWith ch' b' (sampledWith ch b s))) := by
    refine exec_comp_of_sampled rfl ?_ ?_ ?_
    · simpa [sampledWith, converted, settled] using hcal
    · cases ch <;> cases ch' <;> simp_all [sampledWith, converted, settled]
    · cases ch <;> cases ch' <;> simp_all [sampledWith, converted, settled]
  rw [runCommands_cons_of_ok (exec_convInstr hidle hwrite hans) rfl,
    runCommands_cons_of_ok (exec_convInstr rfl hwrite₁ hans₁) rfl, runCommands_cons_of_ok hcomp rfl]
  rfl

@[simp] theorem compRun_err (s : State) : (compRun s).err = .ok := rfl
@[simp] theorem compRun_outValid (s : State) : (compRun s).outValid = true := rfl
@[simp] theorem compRun_rawPValid (s : State) : (compRun s).rawPValid = false := rfl
@[simp] theorem compRun_rawTValid (s : State) : (compRun s).rawTValid = false := rfl

theorem compIn_pressure_first (p q : Block) (s : State) :
    (sampledWith .temperature q (sampledWith .pressure p s)).compIn =
      compInOf (assembleSample q) (assembleSample p) s.calib := by
  simp [State.compIn, sampledWith, converted, settled]

theorem compIn_temperature_first (p q : Block) (s : State) :
    (sampledWith .pressure p (sampledWith .temperature q s)).compIn =
      compInOf (assembleSample q) (assembleSample p) s.calib := by
  simp [State.compIn, sampledWith, converted, settled]

/-- Settles O57: both orders leave the same two samples and the same constants to COMP. -/
theorem cycleProducesTheReading : Obligations.CycleProducesTheReading := by
  intro s s' p q hidle hcal hwrite hwrite' hans hans' hidle' hcal' hcalib hwrite₁ hwrite₁' hans₁ hans₁'
  refine ⟨_, _, runCommands_conv_conv_comp (ch := .pressure) (ch' := .temperature) nofun hidle hcal hwrite hwrite' hans
    hans', runCommands_conv_conv_comp (ch := .temperature) (ch' := .pressure) nofun hidle' hcal' hwrite₁ hwrite₁' hans₁
    hans₁', ?_⟩
  simp [compIn_pressure_first, compIn_temperature_first, hcalib]

end Sys2Proof.Machine
end

section
/-! SUPPORT. A running command: that it ends, and that host reads between its transitions do not disturb it
(70_reset_and_hazards.md R129, 10_state.md R27, decision D18). -/

namespace Sys2Proof.Machine

/-! ### Every command ends (R129) -/

/-- How many transitions the sequencer is from IDLE at most. -/
def Seq.remaining : Seq → Nat
  | .idle => 0
  | .calRd i => 9 - i.val
  | .calCrc => 1
  | .convCmd _ => 3
  | .convWait _ => 2
  | .convRd _ => 1
  | .compRun => 1

theorem remaining_eq_zero_iff (q : Seq) : q.remaining = 0 ↔ q = .idle := by
  cases q <;> simp [Seq.remaining]
  omega

theorem remaining_le (q : Seq) : q.remaining ≤ maxTicks := by
  cases q <;> simp [Seq.remaining, maxTicks]

theorem remaining_afterCalRd (i : Fin 8) : (afterCalRd i).remaining = 8 - i.val := by
  unfold afterCalRd
  split
  · exact Nat.add_sub_add_right 8 1 i.val
  · rw [Seq.remaining]; omega

theorem Transition.remaining_le {s t : State} (h : Transition s t) : t.seq.remaining ≤ s.seq.remaining - 1 := by
  cases h with
  | idle hseq => simp [hseq, Seq.remaining]
  | wordRead i w hseq =>
    rw [hseq, remaining_afterCalRd, Seq.remaining]
    omega
  | written ch hseq | waited ch hseq => simp [hseq, Seq.remaining]
  | _ => simp [endCal, failConv, compRun, Seq.remaining]

theorem ticks_remaining_le (n : Nat) (s : State) : (ticks n s).seq.remaining ≤ s.seq.remaining - n := by
  induction n generalizing s with
  | zero => exact le_rfl
  | succ n ih =>
    have := (tick_transition s).remaining_le
    have := ih (tick s)
    rw [ticks_succ]
    omega

theorem ticks_maxTicks_seq (s : State) : (ticks maxTicks s).seq = .idle := by
  have := ticks_remaining_le maxTicks s
  have := remaining_le s.seq
  exact (remaining_eq_zero_iff _).mp (by omega)

theorem ticks_of_maxTicks_le {n : Nat} (h : maxTicks ≤ n) (s : State) : ticks n s = ticks maxTicks s := by
  rw [← Nat.add_sub_of_le h, ticks_add, ticks_idle _ (ticks_maxTicks_seq s)]

theorem run_succ {s t : State} (h : step s = .next t) (n : Nat) :
    Host.Core.run Sys2Proof.core (n + 1) s = Host.Core.run Sys2Proof.core n t := by
  simp only [Host.Core.run, show Sys2Proof.core.step s = .next t from h]

theorem run_of_no_access (n : Nat) {s : State} (h : s.inputs = []) :
    Host.Core.run Sys2Proof.core n s = .next (ticks n s) := by
  induction n generalizing s with
  | zero => rfl
  | succ n ih => rw [run_succ (step_of_no_access h), ih ((tick_inputs s).trans h), ticks_succ]

/-- Settles O11: nine transitions lead to IDLE from anywhere, and a command is no more than its start and nine. -/
theorem everyCommandEnds : Obligations.EveryCommandEnds := by
  refine ⟨fun s => ⟨_, run_of_no_access maxTicks rfl, ?_⟩, fun i s hidle => ⟨_, exec_of_idle i hidle, ?_⟩⟩
  · exact (busy_eq_false_iff _).mpr (ticks_maxTicks_seq _)
  · exact (busy_eq_false_iff _).mpr (ticks_maxTicks_seq _)

/-! ### The host's side does not disturb a command (R27, D18) -/

/-- `s` with another host side: pending accesses, replies and count of unspecified words. -/
def withHost (inputs : List HostInput) (replies : List HostReply) (draws : Nat) (s : State) : State :=
  { s with inputs := inputs, replies := replies, readDraws := draws }

section HostSide

variable (inputs : List HostInput) (replies : List HostReply) (draws : Nat)

@[simp] theorem withHost_calValid (s : State) : (withHost inputs replies draws s).calValid = s.calValid := rfl
@[simp] theorem withHost_rawTValid (s : State) : (withHost inputs replies draws s).rawTValid = s.rawTValid := rfl
@[simp] theorem withHost_rawPValid (s : State) : (withHost inputs replies draws s).rawPValid = s.rawPValid := rfl
@[simp] theorem withHost_prom (s : State) : (withHost inputs replies draws s).prom = s.prom := rfl
@[simp] theorem withHost_nextWord (s : State) : (withHost inputs replies draws s).nextWord = s.nextWord := rfl
@[simp] theorem withHost_nextWrite (s : State) : (withHost inputs replies draws s).nextWrite = s.nextWrite := rfl
@[simp] theorem withHost_nextBlock (s : State) : (withHost inputs replies draws s).nextBlock = s.nextBlock := rfl

theorem tick_withHost (s : State) :
    tick (withHost inputs replies draws s) = withHost inputs replies draws (tick s) := by
  cases hseq : s.seq with
  | idle => rw [tick_idle hseq]; exact tick_idle hseq
  | calRd i =>
    rw [tick_calRd hseq]
    refine (tick_calRd (s := withHost inputs replies draws s) hseq).trans ?_
    rw [calReadWord, calReadWord, withHost_nextWord]
    cases s.nextWord <;> rfl
  | calCrc =>
    rw [tick_calCrc hseq]
    refine (tick_calCrc (s := withHost inputs replies draws s) hseq).trans ?_
    rw [calCheck, calCheck, withHost_prom]
    cases validImage s.prom <;> rfl
  | convCmd ch =>
    rw [tick_convCmd hseq]
    refine (tick_convCmd (s := withHost inputs replies draws s) hseq).trans ?_
    rw [convWrite, convWrite, withHost_nextWrite]
    cases s.nextWrite <;> cases ch <;> rfl
  | convWait ch =>
    rw [tick_convWait hseq]
    refine (tick_convWait (s := withHost inputs replies draws s) hseq).trans ?_
    cases ch <;> rfl
  | convRd ch =>
    rw [tick_convRd hseq]
    refine (tick_convRd (s := withHost inputs replies draws s) hseq).trans ?_
    rw [convRead, convRead, withHost_nextBlock]
    cases s.nextBlock <;> cases ch <;> rfl
  | compRun => rw [tick_compRun hseq]; exact tick_compRun hseq

theorem ticks_withHost (n : Nat) (s : State) :
    ticks n (withHost inputs replies draws s) = withHost inputs replies draws (ticks n s) := by
  induction n generalizing s with
  | zero => rfl
  | succ n ih => rw [ticks_succ, tick_withHost, ih, ticks_succ]

theorem startInstr_withHost (i : Instr) (s : State) :
    startInstr i (withHost inputs replies draws s) = withHost inputs replies draws (startInstr i s) := by
  cases i with
  | calLoad =>
    rw [startInstr, startCal, startCal, withHost_calValid]
    cases s.calValid <;> rfl
  | osrSetp rate | osrSett rate =>
    rw [startInstr, startOsr, startOsr]
    cases rateIndex rate <;> rfl
  | convP | convT => rfl
  | comp =>
    rw [startInstr, startComp, startComp, withHost_calValid, withHost_rawTValid, withHost_rawPValid]
    cases s.calValid <;> cases s.rawTValid <;> cases s.rawPValid <;> rfl

end HostSide

theorem hostRead_withHost (a : HostAddr) (inputs : List HostInput) (replies : List HostReply) (draws : Nat)
    (s : State) : ∃ replies' draws',
      hostRead a (withHost inputs replies draws s) = withHost inputs replies' draws' s := hostRead_eq a _

/-- A run over host reads and elapses makes as many transitions as there are elapses. -/
theorem run_between (between : List HostInput) (replies : List HostReply) (draws : Nat) (s : State)
    (h : ∀ a ∈ between, a = .elapse ∨ ∃ addr, a = .read addr) :
    ∃ replies' draws', Host.Core.run Sys2Proof.core between.length (withHost between replies draws s) =
      .next (withHost [] replies' draws' (ticks (between.count .elapse) s)) := by
  induction between generalizing replies draws s with
  | nil => exact ⟨replies, draws, rfl⟩
  | cons a rest ih =>
    have hrest : ∀ a ∈ rest, a = .elapse ∨ ∃ addr, a = .read addr := fun a ha => h a (List.mem_cons_of_mem _ ha)
    obtain rfl | ⟨addr, rfl⟩ := h a List.mem_cons_self
    · have hstep : step (withHost (.elapse :: rest) replies draws s) = .next (withHost rest replies draws (tick s)) :=
        (step_of_elapse rfl).trans (congrArg _ (tick_withHost rest replies draws s))
      obtain ⟨replies', draws', hrun⟩ := ih replies draws (tick s) hrest
      exact ⟨replies', draws', by rw [List.length_cons, run_succ hstep, hrun, List.count_cons_self, ticks_succ]⟩
    · obtain ⟨replies₁, draws₁, hread⟩ := hostRead_withHost addr rest replies draws s
      have hstep : step (withHost (.read addr :: rest) replies draws s) = .next (withHost rest replies₁ draws₁ s) :=
        (step_of_read rfl).trans (congrArg _ hread)
      obtain ⟨replies', draws', hrun⟩ := ih replies₁ draws₁ s hrest
      exact ⟨replies', draws', by rw [List.length_cons, run_succ hstep, hrun, List.count_cons_of_ne (by simp)]⟩

/-- Settles O10: the posted word starts the command; the rest of the run is its transitions, of which nine suffice. -/
theorem sequencerRefinesTheCommand : Obligations.SequencerRefinesTheCommand := by
  intro s u w i between hidle hw hbetween hcount hexec
  have hstart : step { s with inputs := .post cmdAddr w :: between } =
      .next (withHost between s.replies s.readDraws (startInstr i s)) := by
    rw [step_of_post (s := { s with inputs := .post cmdAddr w :: between }) hidle rfl, postWord_of_ok hw,
      ← startInstr_withHost]
    rfl
  obtain ⟨replies, draws, hrun⟩ := run_between between s.replies s.readDraws (startInstr i s) hbetween
  refine ⟨_, (run_succ hstart _).trans hrun, ?_⟩
  have hu : u = withHost [] s.replies s.readDraws (ticks maxTicks (startInstr i s)) := by
    have hexec' := (exec_of_idle i (s := withHost [] s.replies s.readDraws s) hidle).symm.trans hexec
    rw [startInstr_withHost, ticks_withHost] at hexec'
    exact (Host.Outcome.next.inj hexec').symm
  rw [hu, ticks_of_maxTicks_le hcount]
  rfl

end Sys2Proof.Machine
end

section
/-! SUPPORT. What host reads show, at IDLE and while a command runs, and what the reset leaves (10_state.md R24, R32,
20_memory.md R43, 30_encoding.md R55, R56, 70_reset_and_hazards.md R119, R120). -/

namespace Sys2Proof.Machine

/-! ### STATUS (10_state.md R24) -/

/-- STATUS from its fields. -/
def statusOf (err : BitVec 3) (out temperature pressure cal busy : Bool) : Word :=
  (0#21 ++ (err ++ (0#3 ++ (BitVec.ofBool out ++ (BitVec.ofBool temperature ++ (BitVec.ofBool pressure ++
    (BitVec.ofBool cal ++ BitVec.ofBool busy))))))).cast (by decide)

theorem statusWord_eq (s : State) : s.statusWord = statusOf s.err.code s.outValid (s.shownRawValid .temperature)
    (s.shownRawValid .pressure) s.calValid s.busy := rfl

theorem statusOf_fields : ∀ (err : BitVec 3) (out temperature pressure cal busy : Bool),
    (statusOf err out temperature pressure cal busy).getLsbD 0 = busy ∧
    (statusOf err out temperature pressure cal busy).getLsbD 1 = cal ∧
    (statusOf err out temperature pressure cal busy).getLsbD 2 = pressure ∧
    (statusOf err out temperature pressure cal busy).getLsbD 3 = temperature ∧
    (statusOf err out temperature pressure cal busy).getLsbD 4 = out ∧
    (statusOf err out temperature pressure cal busy).toNat / 32 % 8 = 0 ∧
    (statusOf err out temperature pressure cal busy).toNat / 256 % 8 = err.toNat ∧
    (statusOf err out temperature pressure cal busy).toNat / 2048 = 0 := by decide +kernel

theorem statusOf_busy : ∀ (err : BitVec 3) (out temperature pressure cal : Bool),
    statusOf err out temperature pressure cal true = statusOf err out temperature pressure cal false ||| 1#32 := by
  decide +kernel

/-- Settles O49: STATUS is its fields side by side, and they have 256 values. -/
theorem statusFields : Obligations.StatusFields := fun _ => statusOf_fields _ _ _ _ _ _

/-! ### What host reads show while a command runs (30_encoding.md R56, decision D28) -/

/-- Every register the host can read is in `t` as it is in `s`; the flags of samples as the host sees them. -/
structure ShowsAs (s t : State) : Prop where
  calib : t.calib = s.calib
  calValid : t.calValid = s.calValid
  osrP : t.osrP = s.osrP
  osrT : t.osrT = s.osrT
  rawP : t.rawP = s.rawP
  rawT : t.rawT = s.rawT
  shownP : t.shownRawValid .pressure = s.shownRawValid .pressure
  shownT : t.shownRawValid .temperature = s.shownRawValid .temperature
  temp : t.temp = s.temp
  press : t.press = s.press
  outValid : t.outValid = s.outValid
  err : t.err = s.err

theorem ShowsAs.trans {s t u : State} (h : ShowsAs s t) (h' : ShowsAs t u) : ShowsAs s u where
  calib := h'.calib.trans h.calib
  calValid := h'.calValid.trans h.calValid
  osrP := h'.osrP.trans h.osrP
  osrT := h'.osrT.trans h.osrT
  rawP := h'.rawP.trans h.rawP
  rawT := h'.rawT.trans h.rawT
  shownP := h'.shownP.trans h.shownP
  shownT := h'.shownT.trans h.shownT
  temp := h'.temp.trans h.temp
  press := h'.press.trans h.press
  outValid := h'.outValid.trans h.outValid
  err := h'.err.trans h.err

/-- A transition that does not end the command changes no register the host can read. -/
theorem Transition.showsAs {s t : State} (h : Transition s t) (hbusy : t.seq ≠ .idle) :
    s.seq ≠ .idle ∧ ShowsAs s t := by
  cases h with
  | idle hseq => exact absurd hseq hbusy
  | wordRead i w hseq | written ch hseq | waited ch hseq =>
    refine ⟨by simp [hseq], rfl, rfl, rfl, rfl, rfl, rfl, ?_, ?_, rfl, rfl, rfl, rfl⟩ <;>
      simp [State.shownRawValid, State.rawValid, hseq]
  | _ => exact absurd rfl hbusy

theorem Start.showsAs {s t : State} (hidle : s.seq = .idle) (h : Start s t) (hbusy : t.seq ≠ .idle) :
    ShowsAs s t := by
  cases h with
  | convStarted ch =>
    cases ch <;> refine ⟨rfl, rfl, rfl, rfl, rfl, rfl, ?_, ?_, rfl, rfl, rfl, rfl⟩ <;>
      simp [State.shownRawValid, State.rawValid, startConv, hidle]
  | calStarted | compStarted =>
    refine ⟨rfl, rfl, rfl, rfl, rfl, rfl, ?_, ?_, rfl, rfl, rfl, rfl⟩ <;>
      simp [State.shownRawValid, State.rawValid, hidle]
  | _ => exact absurd rfl hbusy

theorem ticks_showsAs {s u : State} (hstart : u.seq ≠ .idle → ShowsAs s u) (n : Nat)
    (hbusy : (ticks n u).seq ≠ .idle) : ShowsAs s (ticks n u) := by
  refine ticks_keep (P := fun u => u.seq ≠ .idle → ShowsAs s u) (fun v hv hbusy => ?_) n hstart hbusy
  obtain ⟨hbefore, hshows⟩ := (tick_transition v).showsAs hbusy
  exact (hv hbefore).trans hshows

theorem ShowsAs.hostValue_eq {s t : State} (h : ShowsAs s t) {a : HostAddr} (ha : a ≠ 0x1) :
    hostValue a t = hostValue a s := by
  have ha' : a.toNat ≠ 1 := fun h1 => ha (BitVec.eq_of_toNat_eq h1)
  simp only [hostValue, h.calib, h.calValid, h.osrP, h.osrT, h.rawP, h.rawT, h.shownP, h.shownT, h.temp, h.press,
    h.outValid]
  split <;> simp_all

theorem statusWord_of_busy {s t : State} (h : ShowsAs s t) (hidle : s.busy = false) (hbusy : t.busy = true) :
    t.statusWord = s.statusWord ||| 1#32 := by
  rw [statusWord_eq, statusWord_eq, h.err, h.outValid, h.shownT, h.shownP, h.calValid, hidle, hbusy, statusOf_busy]

/-- Settles O53: until its last transition a started command changes nothing that the host can read but BUSY. -/
theorem busyReadsShowTheStateBefore : Obligations.BusyReadsShowTheStateBefore := by
  intro s i n hidle hbusy
  have hshows : ShowsAs s (ticks n (startInstr i s)) :=
    ticks_showsAs ((startInstr_start i s).showsAs ((busy_eq_false_iff s).mp hidle)) n ((busy_eq_true_iff _).mp hbusy)
  exact ⟨fun a ha => hshows.hostValue_eq ha, congrArg some (statusWord_of_busy hshows hidle hbusy)⟩

/-! ### The host register space (20_memory.md R43, 30_encoding.md R55, R56) -/

/-- Settles O50: the table of 60_exceptions.md R105. -/
theorem resultCodeNumbers : Obligations.ResultCodeNumbers := ⟨rfl, rfl, rfl, rfl, rfl, rfl, rfl, rfl⟩

/-- Settles O52: a read touches the accesses, the replies and the count only. -/
theorem hostReadHasNoSideEffect : Obligations.HostReadHasNoSideEffect := by
  intro s a rest hin
  obtain ⟨replies, draws, hread⟩ := hostRead_eq a (dropInput s)
  exact ⟨replies, draws, by rw [step_of_read hin, hread, dropInput_eq hin]⟩

theorem hostRead_replies (a : HostAddr) (s : State) :
    ∃ v, (∀ w, hostValue a s = some w → v = w) ∧ (hostRead a s).replies = s.replies ++ [⟨a, v⟩] := by
  obtain ⟨v, hv, h⟩ | ⟨hnone, h⟩ := hostRead_cases a s <;> rw [h]
  · exact ⟨v, fun w hw => Option.some_inj.mp (hv.symm.trans hw), rfl⟩
  · exact ⟨_, fun w hw => by simp [hnone] at hw, rfl⟩

theorem rateWord_value (idx : Fin 5) : (BitVec.ofNat 32 (rateOf idx)).toNat = 2 ^ (idx.val + 8) := by
  fin_cases idx <;> rfl

/-- Settles O51: each address's value, where it has one, is the reply. -/
theorem hostRegisterMap : Obligations.HostRegisterMap := by
  intro s a rest hin
  obtain ⟨v, hv, hreplies⟩ := hostRead_replies a (dropInput s)
  have hvalue : ∀ w, hostValue a s = some w → v = w := hv
  have hnumber : ∀ {n : Nat} (w : BitVec n), n ≤ 32 → hostValue a s = some (w.setWidth 32) → v.toNat = w.toNat := by
    intro n w hn hw
    rw [hvalue _ hw, BitVec.toNat_setWidth_of_le hn]
  have hrate : ∀ idx, hostValue a s = some (BitVec.ofNat 32 (rateOf idx)) → v.toNat = 2 ^ (idx.val + 8) := by
    intro idx hw
    rw [hvalue _ hw, rateWord_value]
  refine ⟨_, v, step_of_read hin, hreplies, ?cmd, ?status, fun hcal => ⟨?c1, ?c2, ?c3, ?c4, ?c5, ?c6⟩, ?osrP, ?osrT,
    fun hp => ?rawP, fun ht => ?rawT, fun hout => ⟨?temp, ?press⟩, ?reserved⟩
  case c1 | c2 | c3 | c4 | c5 | c6 =>
    rintro rfl
    exact hnumber _ (by norm_num) (if_pos hcal)
  case rawP =>
    rintro rfl
    exact hnumber s.rawP (by norm_num) (if_pos hp)
  case rawT =>
    rintro rfl
    exact hnumber s.rawT (by norm_num) (if_pos ht)
  case temp | press =>
    rintro rfl
    exact hvalue _ (if_pos hout)
  case osrP =>
    rintro rfl
    exact hrate s.osrP rfl
  case osrT =>
    rintro rfl
    exact hrate s.osrT rfl
  case cmd | status =>
    rintro rfl
    exact hvalue _ rfl
  case reserved =>
    rintro (rfl | rfl) <;> exact hvalue _ rfl

/-- Settles O54: no register the host can read is changed by it. -/
theorem internalRegistersAreInvisible : Obligations.InternalRegistersAreInvisible := fun _ _ _ _ _ => rfl

/-! ### Reset (10_state.md R32, 70_reset_and_hazards.md R119, R120, R122) -/

/-- Settles O55: the fields of the reset state, and STATUS computed from them. -/
theorem resetValues : Obligations.ResetValues := ⟨rfl, rfl, rfl, rfl, rfl, rfl, rfl, rfl, by decide⟩

/-- Settles O56: the reset engine in the state whose reset access has been taken off. -/
theorem resetAbandonsTheCommand : Obligations.ResetAbandonsTheCommand := by
  intro s rest hin
  refine ⟨_, step_of_reset hin, rfl, rfl, rfl, rfl, rfl, rfl, rfl, rfl, rfl, rfl, rfl, rfl, rfl, ?_, rfl⟩
  rw [resetEngine_inputs, dropInput_eq hin]

end Sys2Proof.Machine
end

section
/-! SUPPORT. The constraints of the tables and the bit test of a rate (00_scope.md R8, 20_memory.md
R36, 40_osr.md R68). -/

namespace Sys2Proof.Machine

/-! ### The OPEN parameters in the tables (R8) -/

/-- The ten command bytes, the pressure table's first. -/
def commandBytes : List Byte := Config.params.cmdP.toList ++ Config.params.cmdT.toList

/-- Where a row's command byte stands among the ten. -/
def commandPosition : Channel → Fin 5 → Nat
  | .pressure, idx => idx.val
  | .temperature, idx => 5 + idx.val

theorem commandPosition_lt (ch : Channel) (idx : Fin 5) : commandPosition ch idx < commandBytes.length := by
  cases ch <;> simp [commandPosition, commandBytes] <;> omega

theorem commandBytes_getElem (ch : Channel) (idx : Fin 5) :
    commandBytes[commandPosition ch idx]'(commandPosition_lt ch idx) = commandOf ch idx := by
  cases ch <;> simp [commandPosition, commandBytes, commandOf]

theorem commandPosition_injective {ch ch' : Channel} {i j : Fin 5} (h : commandPosition ch i = commandPosition ch' j) :
    ch = ch' ∧ i = j := by
  cases ch <;> cases ch' <;> simp only [commandPosition] at h <;> simp <;> omega

theorem commandOf_injective {ch ch' : Channel} {i j : Fin 5} (h : commandOf ch i = commandOf ch' j) :
    ch = ch' ∧ i = j := by
  rw [← commandBytes_getElem, ← commandBytes_getElem] at h
  exact commandPosition_injective ((params_distinctCommands.getElem_inj_iff).mp h)

theorem delayOf_strictMono {i j : Fin 5} (h : i < j) : delayOf i < delayOf j := by
  have hpairs := List.pairwise_iff_getElem.mp params_delaysIncrease i.val j.val (by simp) (by simp) h
  simpa [delayOf] using hpairs

theorem promOffset_toNat (i : Fin 8) : (promOffset i).toNat = Config.params.caliBase.toNat + 2 * i.val := by
  have hfit := params_offsetsFit
  rw [promOffset, BitVec.toNat_add, BitVec.toNat_ofNat]
  omega

/-- Settles O14: the parameters in use meet R8, whatever the OPEN ones are. -/
theorem tablesMeetTheirConstraints : Obligations.TablesMeetTheirConstraints :=
  ⟨fun _ _ _ _ => commandOf_injective, fun _ _ => delayOf_strictMono, promOffset_toNat⟩

/-! ### The bit test of a rate (R68) -/

/-- The three fields of a rate, as numbers. -/
theorem rate_fields_iff (rate : Half) (oneHot : BitVec 5) :
    rate.extractLsb' 13 3 = 0 ∧ rate.extractLsb' 0 8 = 0 ∧ rate.extractLsb' 8 5 = oneHot ↔
      rate.toNat = oneHot.toNat * 256 := by
  have hrate := rate.isLt
  have hhot := oneHot.isLt
  simp only [← BitVec.toNat_inj, BitVec.extractLsb'_toNat, Nat.shiftRight_eq_div_pow, BitVec.ofNat_eq_ofNat,
    BitVec.toNat_ofNat, Nat.reducePow, Nat.reduceMod]
  omega

/-- Settles O13: a rate of the table is its one bit at position `idx + 8`. -/
theorem rateBitTest : Obligations.RateBitTest := by
  intro rate idx
  have hpow : (BitVec.twoPow 5 idx.val).toNat * 256 = 2 ^ (idx.val + 8) := by fin_cases idx <;> rfl
  rw [rateIndex_eq_some_iff, rateOf_eq, rate_fields_iff, hpow]

end Sys2Proof.Machine
end
